-- ==== Sys2Proof/Word.lean ====
section
/-! DEFINITION. The words of the block (spec/00_scope.md R13): every quantity is unsigned. -/

namespace Sys2Proof

/-- One byte: a frame-buffer byte, or a byte of a payload. -/
abbrev Byte := BitVec 8

/-- u16: a LEN field, a gamma table entry. -/
abbrev Half := BitVec 16

/-- u32: a request header, a response word, a delay in nanoseconds. -/
abbrev Word := BitVec 32

/-- A 4-bit handle number (spec/30_encoding.md R93). -/
abbrev Handle := BitVec 4

/-- The data-output register. DOUT_W is at most 64 (spec/00_scope.md R11), so 64 bits hold it; the bits at DOUT_W and
above are 0. -/
abbrev DoutWord := BitVec 64

end Sys2Proof
end

