-- ==== Sys2Proof/Syntax.lean ====
section
/-! DEFINITION. What the host sends: requests (spec/30_encoding.md R90) and the transactions they stand for, one
constructor per row of spec/opcode_table.json. -/

namespace Sys2Proof

/-- One request at the port (spec/30_encoding.md R90, R98): the 32-bit header, the payload bytes, and the transfer-error
flag XFER_ERR that the host presents with it. -/
structure Request where
  header : Word
  payload : List Byte
  xferErr : Bool
  deriving DecidableEq, Repr

/-- The transactions (spec/30_encoding.md R101). `h` is HANDLE, `len` is LEN, `p` the payload and `x` XFER_ERR, which only
WRITE, READ and CTRL look at (R98). -/
inductive Instr where
  /-- OPEN (R120) -/
  | openHandle
  /-- CLOSE h (R122) -/
  | close (h : Handle)
  /-- WRITE h, p (R124) -/
  | write (h : Handle) (len : Half) (p : List Byte) (x : Bool)
  /-- READ h, len, or READ.NB when `nb` (R125) -/
  | read (h : Handle) (nb : Bool) (len : Half) (x : Bool)
  /-- CTRL.SET_LATCH_DELAY, CMD 0 (R203) -/
  | setLatchDelay (h : Handle) (len : Half) (p : List Byte) (x : Bool)
  /-- CTRL.SET_CLOCK_DELAY, CMD 1 (R204) -/
  | setClockDelay (h : Handle) (len : Half) (p : List Byte) (x : Bool)
  /-- CTRL.SET_GAMMA, CMD 2 (R205) -/
  | setGamma (h : Handle) (len : Half) (p : List Byte) (x : Bool)
  /-- CTRL.SET_BLANK, CMD 3 (R206) -/
  | setBlank (h : Handle) (len : Half) (p : List Byte) (x : Bool)
  /-- CTRL with CMD 4 .. 7, `c` its bits 17:16 (R202) -/
  | ctrlUnsupported4To7 (h : Handle) (c : BitVec 2) (len : Half) (p : List Byte) (x : Bool)
  /-- CTRL with CMD 8 .. 15, `c` its bits 18:16 (R202) -/
  | ctrlUnsupported8To15 (h : Handle) (c : BitVec 3) (len : Half) (p : List Byte) (x : Bool)
  /-- CANCEL h (R128) -/
  | cancel (h : Handle)
  deriving DecidableEq, Repr

end Sys2Proof
end

