-- ==== Sys2Proof/Config.lean ====
section
/-! DEFINITION. The configuration (spec/00_scope.md R11): what an instance of the block fixes and no step changes. -/

namespace Sys2Proof

/-- The parameters of spec/00_scope.md R11, under lower-case forms of their names. FB_BYTES is derived
(`Config.fbBytes`). -/
structure Config where
  /-- ROWS: matrix rows, also the number of data lines. -/
  rows : Nat
  /-- COLS: matrix columns. -/
  cols : Nat
  /-- GAMMA_BITS (N): significant low bits of a gamma code. -/
  gammaBits : Nat
  /-- NATIVE_BITS (D): clock pulses per column-component. -/
  nativeBits : Nat
  /-- DOUT_W: width of the data-output register. -/
  doutW : Nat
  /-- WIRING: entry r is the DOUT bit that carries logical row r. -/
  wiring : List Nat
  /-- ROTATE: the 180 degree rotation flag. -/
  rotate : Bool
  dataActiveLow : Bool
  clkActiveLow : Bool
  latActiveLow : Bool
  blankActiveLow : Bool
  /-- CNT_W: width of the frame generation counter. -/
  cntW : Nat
  /-- MAX_HANDLES: number of handle slots. -/
  maxHandles : Nat
  /-- GT_RESET: the gamma table at reset. -/
  gtReset : Vector Half 256
  /-- T_CLK_RESET_NS, which the spec leaves OPEN (D56). -/
  tClkResetNs : Word
  /-- T_LAT_RESET_NS, which the spec leaves OPEN (D57). -/
  tLatResetNs : Word
  deriving DecidableEq, Repr

end Sys2Proof
end

