-- ==== Sys2Proof/WellFormed.lean ====
section
/-! DEFINITION. The checks on a configuration (spec/00_scope.md R12) and on a transaction (spec/30_encoding.md R90, R96). -/

namespace Sys2Proof

/-- The configurations for which a device exists (spec/00_scope.md R12). -/
def Config.wf (c : Config) : Bool :=
  decide (1 ≤ c.rows ∧ 1 ≤ c.cols ∧ 1 ≤ c.gammaBits ∧ c.gammaBits ≤ 16
    ∧ c.gammaBits ≤ c.nativeBits ∧ c.nativeBits ≤ 65535
    ∧ 1 ≤ c.doutW ∧ c.doutW ≤ 64
    ∧ c.wiring.length = c.rows ∧ c.wiring.Nodup ∧ (∀ p ∈ c.wiring, p < c.doutW)
    ∧ 1 ≤ c.cntW ∧ 1 ≤ c.maxHandles ∧ c.maxHandles ≤ 16)

/-- A transaction that carries a payload carries exactly LEN bytes of it (spec/30_encoding.md R90, R96). The other fields
admit every value of their width. -/
def Instr.wf : Instr → Bool
  | .openHandle => true
  | .close _ => true
  | .write _ len p _ => p.length == len.toNat
  | .read _ _ _ _ => true
  | .setLatchDelay _ len p _ => p.length == len.toNat
  | .setClockDelay _ len p _ => p.length == len.toNat
  | .setGamma _ len p _ => p.length == len.toNat
  | .setBlank _ len p _ => p.length == len.toNat
  | .ctrlUnsupported4To7 _ _ len p _ => p.length == len.toNat
  | .ctrlUnsupported8To15 _ _ len p _ => p.length == len.toNat
  | .cancel _ => true

end Sys2Proof
end

