-- ==== Sys2Proof/Decode.lean ====
section
/-! DEFINITION. From the words and bytes of a request to a transaction (spec/30_encoding.md section 3), and back. -/

namespace Sys2Proof

/-! ### The request header (R91) -/

/-- OP, bits 31:28. -/
def headerOp (w : Word) : BitVec 4 := w.extractLsb' 28 4

/-- HANDLE, bits 27:24 (R93). -/
def headerHandle (w : Word) : Handle := w.extractLsb' 24 4

/-- NB, bit 23 (R94). -/
def headerNb (w : Word) : Bool := w.getLsbD 23

/-- RSVD, bits 22:20. -/
def headerRsvd (w : Word) : BitVec 3 := w.extractLsb' 20 3

/-- CMD, bits 19:16 (R95). -/
def headerCmd (w : Word) : BitVec 4 := w.extractLsb' 16 4

/-- LEN, bits 15:0 (R96). -/
def headerLen (w : Word) : Half := w.extractLsb' 0 16

/-- The header word with the given fields (R91). RSVD is 0. -/
def mkHeader (op : BitVec 4) (h : Handle) (nb : Bool) (cmd : BitVec 4) (len : Half) : Word :=
  op ++ h ++ BitVec.ofBool nb ++ (0 : BitVec 3) ++ cmd ++ len

/-- PLEN: the number of payload bytes of a request with header `w`. It depends on OP alone, so it is defined for headers
that decode as ILLEGAL too (R96). -/
def plen (w : Word) : Nat :=
  if headerOp w = 3 ∨ headerOp w = 5 then (headerLen w).toNat else 0

/-- The payload is the PLEN bytes that the header announces (R90). -/
def Request.framed (r : Request) : Bool := r.payload.length == plen r.header

/-! ### Decoding (R100, R102) -/

/-- Why bytes are no transaction. All but `truncated` are R102's ILLEGAL; the spec gives them one outcome. -/
inductive DecodeError where
  /-- fewer bytes than the header and its PLEN payload bytes (R104): no request yet -/
  | truncated
  /-- RSVD is not 0 -/
  | reservedBits
  /-- OP is 0x0 or 0x7 .. 0xF -/
  | reservedOp
  /-- a field that must be 0 for its OP is not -/
  | mustBeZero
  deriving DecidableEq, Repr

/-- CTRL by its command code (R95, R101). -/
def decodeCtrl (h : Handle) (cmd : BitVec 4) (len : Half) (p : List Byte) (x : Bool) : Instr :=
  if cmd = 0 then .setLatchDelay h len p x
  else if cmd = 1 then .setClockDelay h len p x
  else if cmd = 2 then .setGamma h len p x
  else if cmd = 3 then .setBlank h len p x
  else if cmd < 8 then .ctrlUnsupported4To7 h (cmd.extractLsb' 0 2) len p x
  else .ctrlUnsupported8To15 h (cmd.extractLsb' 0 3) len p x

/-- R100's decode, on the header of a framed request; the transaction takes its payload and XFER_ERR along. -/
def decodeRequest (r : Request) : Except DecodeError Instr :=
  let w := r.header
  let h := headerHandle w
  if headerRsvd w ≠ 0 then .error .reservedBits
  else if headerOp w = 1 then
    if h = 0 ∧ headerNb w = false ∧ headerCmd w = 0 ∧ headerLen w = 0 then .ok .openHandle else .error .mustBeZero
  else if headerOp w = 2 then
    if headerNb w = false ∧ headerCmd w = 0 ∧ headerLen w = 0 then .ok (.close h) else .error .mustBeZero
  else if headerOp w = 3 then
    if headerNb w = false ∧ headerCmd w = 0 then .ok (.write h (headerLen w) r.payload r.xferErr) else .error .mustBeZero
  else if headerOp w = 4 then
    if headerCmd w = 0 then .ok (.read h (headerNb w) (headerLen w) r.xferErr) else .error .mustBeZero
  else if headerOp w = 5 then
    if headerNb w = false then .ok (decodeCtrl h (headerCmd w) (headerLen w) r.payload r.xferErr) else .error .mustBeZero
  else if headerOp w = 6 then
    if headerNb w = false ∧ headerCmd w = 0 ∧ headerLen w = 0 then .ok (.cancel h) else .error .mustBeZero
  else .error .reservedOp

/-! ### Requests as bytes (R61, R104) -/

/-- A 32-bit word as its four bytes, the least significant first (R61). -/
def wordBytes (w : Word) : List Byte :=
  [w.extractLsb' 0 8, w.extractLsb' 8 8, w.extractLsb' 16 8, w.extractLsb' 24 8]

/-- The request as a transport carries it: the header's four bytes, then the payload (R61, R90). -/
def Request.bytes (r : Request) : List Byte := wordBytes r.header ++ r.payload

/-- Takes one request off a byte stream: the 4-byte header, then PLEN payload bytes (R104). `x` is the XFER_ERR that comes
with it. The rest of the stream is returned. -/
def frame (x : Bool) : List Byte → Except DecodeError (Request × List Byte)
  | b0 :: b1 :: b2 :: b3 :: rest =>
    let w : Word := b3 ++ b2 ++ b1 ++ b0
    if plen w ≤ rest.length then .ok (⟨w, rest.take (plen w), x⟩, rest.drop (plen w)) else .error .truncated
  | _ => .error .truncated

/-- Decodes the first request of a byte stream; total on any bytes. -/
def decodeBytes (x : Bool) (bs : List Byte) : Except DecodeError (Instr × List Byte) :=
  match frame x bs with
  | .error e => .error e
  | .ok (r, rest) =>
    match decodeRequest r with
    | .error e => .error e
    | .ok i => .ok (i, rest)

/-! ### Responses (R61, R97, R104) -/

/-- STATUS of a response word, bits 31:28. -/
def respStatus (w : Word) : BitVec 4 := w.extractLsb' 28 4

/-- HANDLE of a response word, bits 27:24. -/
def respHandle (w : Word) : Handle := w.extractLsb' 24 4

/-- COUNT of a response word, bits 15:0. -/
def respCount (w : Word) : Nat := (w.extractLsb' 0 16).toNat

/-- A response as a transport carries it: the word's four bytes, the least significant first, then the data bytes (R61,
R90). -/
def respBytes (w : Word) (data : List Byte) : List Byte := wordBytes w ++ data

/-- The number of data bytes after a response word: COUNT if the request was a READ, else none (R97, R104). A request with
OP 4 that decodes as ILLEGAL has COUNT 0. -/
def respDataLen (request w : Word) : Nat := if headerOp request = 4 then respCount w else 0

/-- Takes the response to the request with header `request` off a byte stream: the 4-byte word, then its data bytes (R104).
The rest of the stream is returned; `none` when the stream ends inside the response. -/
def frameResponse (request : Word) : List Byte → Option ((Word × List Byte) × List Byte)
  | b0 :: b1 :: b2 :: b3 :: rest =>
    let w : Word := b3 ++ b2 ++ b1 ++ b0
    let n := respDataLen request w
    if n ≤ rest.length then some ((w, rest.take n), rest.drop n) else none
  | _ => none

/-! ### Encoding (R101, R105) -/

/-- The header word of a transaction. -/
def Instr.header : Instr → Word
  | .openHandle => mkHeader 1 0 false 0 0
  | .close h => mkHeader 2 h false 0 0
  | .write h len _ _ => mkHeader 3 h false 0 len
  | .read h nb len _ => mkHeader 4 h nb 0 len
  | .setLatchDelay h len _ _ => mkHeader 5 h false 0 len
  | .setClockDelay h len _ _ => mkHeader 5 h false 1 len
  | .setGamma h len _ _ => mkHeader 5 h false 2 len
  | .setBlank h len _ _ => mkHeader 5 h false 3 len
  | .ctrlUnsupported4To7 h c len _ _ => mkHeader 5 h false ((1 : BitVec 2) ++ c) len
  | .ctrlUnsupported8To15 h c len _ _ => mkHeader 5 h false ((1 : BitVec 1) ++ c) len
  | .cancel h => mkHeader 6 h false 0 0

/-- The payload bytes of a transaction. -/
def Instr.payload : Instr → List Byte
  | .openHandle => []
  | .close _ => []
  | .write _ _ p _ => p
  | .read _ _ _ _ => []
  | .setLatchDelay _ _ p _ => p
  | .setClockDelay _ _ p _ => p
  | .setGamma _ _ p _ => p
  | .setBlank _ _ p _ => p
  | .ctrlUnsupported4To7 _ _ _ p _ => p
  | .ctrlUnsupported8To15 _ _ _ p _ => p
  | .cancel _ => []

/-- XFER_ERR as a transaction carries it; OPEN, CLOSE and CANCEL ignore the flag (R98). -/
def Instr.xferErr : Instr → Bool
  | .openHandle => false
  | .close _ => false
  | .write _ _ _ x => x
  | .read _ _ _ x => x
  | .setLatchDelay _ _ _ x => x
  | .setClockDelay _ _ _ x => x
  | .setGamma _ _ _ x => x
  | .setBlank _ _ _ x => x
  | .ctrlUnsupported4To7 _ _ _ _ x => x
  | .ctrlUnsupported8To15 _ _ _ _ x => x
  | .cancel _ => false

/-- The handle that a transaction names, its HANDLE field (R93); 0 for OPEN. -/
def Instr.handle : Instr → Handle
  | .openHandle => 0
  | .close h => h
  | .write h _ _ _ => h
  | .read h _ _ _ => h
  | .setLatchDelay h _ _ _ => h
  | .setClockDelay h _ _ _ => h
  | .setGamma h _ _ _ => h
  | .setBlank h _ _ _ => h
  | .ctrlUnsupported4To7 h _ _ _ _ => h
  | .ctrlUnsupported8To15 h _ _ _ _ => h
  | .cancel h => h

/-- The request that carries a transaction. -/
def encode (i : Instr) : Request := ⟨i.header, i.payload, i.xferErr⟩

/-! ### The words of spec/opcode_table.json -/

/-- The request whose header has the bits of `w` below `nbits` and 0 above, with a payload of PLEN zero bytes and
XFER_ERR 0. -/
def tableRequest (nbits w : Nat) : Request :=
  let hdr : Word := BitVec.ofNat 32 (w % 2 ^ nbits)
  ⟨hdr, List.replicate (plen hdr) 0, false⟩

/-- What the decoder reads from the bytes of that request. -/
def decodeTableWord (nbits w : Nat) : Option Instr :=
  match decodeBytes false (tableRequest nbits w).bytes with
  | .ok (i, _) => some i
  | .error _ => none

/-- The (match, mask) pairs of R101, in the order of spec/opcode_table.json. A header w matches when w & mask = match. -/
def opcodeRows : List (Word × Word) :=
  [(0x10000000, 0xFFFFFFFF), (0x20000000, 0xF0FFFFFF), (0x30000000, 0xF0FF0000), (0x40000000, 0xF07F0000),
   (0x50000000, 0xF0FF0000), (0x50010000, 0xF0FF0000), (0x50020000, 0xF0FF0000), (0x50030000, 0xF0FF0000),
   (0x50040000, 0xF0FC0000), (0x50080000, 0xF0F80000), (0x60000000, 0xF0FFFFFF)]

/-- The number of a transaction's row in `opcodeRows`. -/
def Instr.row : Instr → Nat
  | .openHandle => 0
  | .close _ => 1
  | .write _ _ _ _ => 2
  | .read _ _ _ _ => 3
  | .setLatchDelay _ _ _ _ => 4
  | .setClockDelay _ _ _ _ => 5
  | .setGamma _ _ _ _ => 6
  | .setBlank _ _ _ _ => 7
  | .ctrlUnsupported4To7 _ _ _ _ _ => 8
  | .ctrlUnsupported8To15 _ _ _ _ _ => 9
  | .cancel _ => 10

end Sys2Proof
end

