-- ==== Sys2Proof/Machine/Params.lean ====
section
/-! DEFINITION. What follows from the configuration alone: the frame's geometry and the wiring map (spec/10_state.md
section 6, spec/20_memory.md sections 2 and 4), pin polarity (spec/42_serializer.md R185), the column-component order and
the length of an emission, the default gamma table (spec/10_state.md R31) and the default configuration
(spec/00_scope.md R11). -/

namespace Sys2Proof

/-! ### Geometry -/

/-- FB_BYTES = ROWS * COLS * 3 (R11). -/
def Config.fbBytes (c : Config) : Nat := c.rows * c.cols * 3

/-- The frame address of a logical row, a column and a component (R63). -/
def Config.offset (c : Config) (row col comp : Nat) : Nat := row * (3 * c.cols) + 3 * col + comp

/-- LINES: the data lines the block drives (R35, R172). -/
def Config.lines (c : Config) : List Nat := c.wiring

/-- LROW(p): the logical row whose bytes line p carries (R36). DESIGN CHOICE (unsafe, log 24): R36 leaves LROW undefined for
a p outside LINES, where it is ROWS without ROTATE and 0 with it here; no step asks for it there. -/
def Config.lrow (c : Config) (p : Nat) : Nat :=
  let r := c.wiring.idxOf p
  if c.rotate then c.rows - 1 - r else r

/-- ROWOFF[p], the Row Offset Table (R37). -/
def Config.rowOff (c : Config) (p : Nat) : Nat := c.lrow p * c.cols * 3

/-- PADDR(cc, p): the wiring map, the block's only address translation (R70). -/
def Config.paddr (c : Config) (cc p : Nat) : Nat := cc + c.rowOff p

/-- Entry q of CC_ORDER: highest to lowest, unless ROTATE (R171). -/
def Config.ccAt (c : Config) (q : Nat) : Nat := if c.rotate then q else 3 * c.cols - 1 - q

/-- CC_ORDER (R171). -/
def Config.ccOrder (c : Config) : List Nat :=
  if c.rotate then List.range (3 * c.cols) else (List.range (3 * c.cols)).reverse

/-- The number of pulses of an emission (R182). -/
def Config.pulses (c : Config) : Nat := 3 * c.cols * c.nativeBits

/-- E, the number of steps of an emission (R187). -/
def Config.emissionSteps (c : Config) : Nat := 1 + 5 * c.pulses + 4 + 1

/-- The handle numbers h < MAX_HANDLES, ascending. -/
def Config.handleNumbers (c : Config) : List Handle :=
  ((List.range 16).map (BitVec.ofNat 4)).filter (fun h => h.toNat < c.maxHandles)

/-! ### Bits -/

/-- mask_n = 2^n - 1, in w bits (R13). -/
def maskBits (w n : Nat) : BitVec w := BitVec.ofNat w (2 ^ n - 1)

/-- rev_n(v): the n-bit reversal (R13). -/
def revBits (n v : Nat) : Nat :=
  (List.range n).foldl (fun a i => a + if v.testBit (n - 1 - i) then 2 ^ i else 0) 0

/-! ### Polarity (R185) -/

/-- level(CLK, a) -/
def Config.clkLevel (c : Config) (a : Bool) : Bool := a ^^ c.clkActiveLow

/-- level(LAT, a) -/
def Config.latLevel (c : Config) (a : Bool) : Bool := a ^^ c.latActiveLow

/-- level(BLANK, a) -/
def Config.blankLevel (c : Config) (a : Bool) : Bool := a ^^ c.blankActiveLow

/-- level(DATA, a), for one DOUT bit. -/
def Config.dataLevel (c : Config) (a : Bool) : Bool := a ^^ c.dataActiveLow

/-- DLEVEL(w): every one of the DOUT_W bits inverted when the data lines are active low. -/
def Config.dlevel (c : Config) (w : DoutWord) : DoutWord :=
  w ^^^ (if c.dataActiveLow then maskBits 64 c.doutW else 0)

/-! ### Defaults -/

/-- round((2^n - 1) * i / 255) in exact rational arithmetic; no tie occurs (R31). -/
def roundRamp (n i : Nat) : Nat := (2 * ((2 ^ n - 1) * i) + 255) / 510

/-- The default GT_RESET for GAMMA_BITS = n (R31). -/
def defaultGamma (n : Nat) : Vector Half 256 :=
  Vector.ofFn (fun i : Fin 256 => BitVec.ofNat 16 (revBits n (roundRamp n i.val)))

/-- The defaults of R11, for given values of the two parameters that have none (D56, D57). -/
def Config.defaults (tClkResetNs tLatResetNs : Word) : Config where
  rows := 24
  cols := 48
  gammaBits := 12
  nativeBits := 12
  doutW := 24
  wiring := List.range 24
  rotate := false
  dataActiveLow := false
  clkActiveLow := false
  latActiveLow := false
  blankActiveLow := false
  cntW := 32
  maxHandles := 16
  gtReset := defaultGamma 12
  tClkResetNs := tClkResetNs
  tLatResetNs := tLatResetNs

end Sys2Proof
end

