-- ==== Sys2Proof/Machine/State.lean ====
section
/-! DEFINITION. The state of the block (spec/10_state.md R20), the inputs it reads as plain data, why a step can stop, and
the state after reset. -/

namespace Sys2Proof.Machine

/-- The waiter record Wait(V, max_len, xfer_err) of a blocked READ (R24). `v` is a CNT value. -/
structure Waiter where
  v : Nat
  maxLen : Half
  xferErr : Bool
  deriving DecidableEq, Repr

/-- One handle slot: open[h], pos[h] and pend[h] (R22, R23, R24). -/
structure Slot where
  isOpen : Bool
  pos : Nat
  pend : Option Waiter
  deriving DecidableEq, Repr

/-- The frame buffer: (address, byte) pairs, addresses strictly rising, no byte equal to what an unlisted address reads as,
which is the reset value 0 (R34). -/
abbrev Memory := List Host.Cell

/-- PORT (R26). `held h n`: a WRITE from h consumed n bytes, reached the boundary, and waits for its emission. -/
inductive Port where
  | idle
  | held (h : Handle) (n : Nat)
  deriving DecidableEq, Repr

/-- SER (R25). `run k`: step k of the emission is next. -/
inductive Ser where
  | idle
  | run (k : Nat)
  deriving DecidableEq, Repr

/-- An output pin with a level (R39). -/
inductive Pin where
  | dout (level : DoutWord)
  | clk (level : Bool)
  | lat (level : Bool)
  | blank (level : Bool)
  deriving DecidableEq, Repr

/-- The trace events (R40). A response's data bytes, which follow its word (R97), are kept with it. -/
inductive Event where
  | req (header : Word)
  | resp (word : Word) (data : List Byte)
  | pinSet (p : Pin)
  | delay (t : Word)
  | frameReady (c : Nat)
  deriving DecidableEq, Repr

/-- A host client (R9, R10): the requests it will still issue, in order, and the handle of its transaction that has no
response yet. The client issues nothing while it waits. -/
structure Client where
  script : List Request
  waits : Option Handle
  deriving DecidableEq, Repr

/-- Which agent takes the next step (R9). -/
inductive Choice where
  /-- host client k presents its next request -/
  | client (k : Nat)
  /-- the host interrupt source issues its next CANCEL -/
  | interrupt
  /-- the serializer takes its next pin step -/
  | serializer
  /-- the port takes the frame-ready step -/
  | frameReady
  deriving DecidableEq, Repr

/-- The state: every element of R20's table, the configuration (R11), which no step changes, and the inputs of R41 as plain
data: the host's requests and the choice of the next agent. -/
structure State where
  cfg : Config
  slots : Vector Slot 16
  mem : Memory
  cnt : Nat
  gt : Vector Half 256
  tClk : Word
  tLat : Word
  blankForce : Bool
  blankSer : Bool
  port : Port
  ser : Ser
  dout : DoutWord
  clk : Bool
  lat : Bool
  blank : Bool
  trace : List Event
  clients : List Client
  irq : List Handle
  sched : List Choice
  deriving DecidableEq, Repr

/-- Why the machine stops with a fault. The block itself has no fault (R220, R188). -/
inductive Fault where
  /-- A frame-buffer access that R14 does not allow (a + n > FB_BYTES). Raised by the operations that read or write the
  frame for WRITE and READ, only from a cursor beyond FB_BYTES, which R23 excludes and no run reaches. Safe. -/
  | outsideFrame
  deriving DecidableEq, Repr

/-- Why a step gives no meaning. -/
inductive Refusal where
  /-- An instruction with no meaning yet; raised by exec's arm for it. Safe. No arm raises it. -/
  | notModelled (mnemonic : String)
  /-- The configuration fails R12, so there is no device (R229, R250). Raised by every step. Safe. -/
  | illFormedConfig
  /-- What the host presents is no request: its payload is not the PLEN bytes that its header announces (R90). Raised by a
  client's step. Safe. -/
  | unframedRequest
  deriving DecidableEq, Repr

/-- A handle slot at reset (R20). -/
def Slot.reset : Slot := ⟨false, 0, none⟩

/-- The state after reset for a configuration (R20, R250, R251). No client, no interrupt and no choice is waiting. -/
def State.resetWith (c : Config) : State where
  cfg := c
  slots := Vector.replicate 16 Slot.reset
  mem := []
  cnt := 0
  gt := c.gtReset
  tClk := c.tClkResetNs
  tLat := c.tLatResetNs
  blankForce := false
  blankSer := true
  port := .idle
  ser := .idle
  dout := c.dlevel 0
  clk := c.clkLevel false
  lat := c.latLevel false
  blank := c.blankLevel true
  trace := []
  clients := []
  irq := []
  sched := []

/-- The state after reset in the default configuration (R11). DESIGN CHOICE (unsafe, log 1): T_CLK_RESET_NS and
T_LAT_RESET_NS, which the spec leaves OPEN, are 0 here; `State.resetWith` takes every value of them. -/
def State.reset : State := State.resetWith (Config.defaults 0 0)

end Sys2Proof.Machine
end

