-- ==== Sys2Proof/Machine/Flags.lean ====
section
/-! DEFINITION. Outcomes (spec/30_encoding.md R97, R99). The block has no condition codes (spec/10_state.md R27): the
outcome of a transaction is the STATUS of its response, and the other predicates are read off the state. -/

namespace Sys2Proof.Machine

/-- The outcomes of R99. Codes 9 to 15 are never produced. -/
inductive Status where
  | ok
  | fault
  | interrupted
  | notSupported
  | badLen
  | illegal
  | badHandle
  | noHandle
  | busy
  deriving DecidableEq, Repr

/-- The STATUS code (R99). -/
def statusCode : Status → BitVec 4
  | .ok => 0
  | .fault => 1
  | .interrupted => 2
  | .notSupported => 3
  | .badLen => 4
  | .illegal => 5
  | .badHandle => 6
  | .noHandle => 7
  | .busy => 8

/-- The response word: STATUS 31:28, HANDLE 27:24, zero 23:16, COUNT 15:0 (R97). -/
def responseWord (st : Status) (h : Handle) (count : Nat) : Word :=
  statusCode st ++ h ++ (0 : BitVec 8) ++ BitVec.ofNat 16 count

/-- Handle slot h (R22 to R24). Every 4-bit number names a slot; those at MAX_HANDLES and above stay as reset leaves them. -/
def State.slot (s : State) (h : Handle) : Slot := s.slots[h.toNat]'h.isLt

/-- `h < MAX_HANDLES` and `open[h]`: the handle check (R93, R221). -/
def State.bound (s : State) (h : Handle) : Bool := Nat.blt h.toNat s.cfg.maxHandles && (s.slot h).isOpen

/-- `pend[h] ≠ none` (R27: waiting). -/
def State.waiting (s : State) (h : Handle) : Bool := (s.slot h).pend.isSome

/-- A transaction on h has started and not responded: a blocked READ, or a WRITE whose frame is being emitted (R126, R151). -/
def State.outstanding (s : State) (h : Handle) : Bool :=
  s.waiting h || match s.port with
    | .held g _ => g == h
    | .idle => false

/-- FB_BYTES (R11). -/
def State.fbBytes (s : State) : Nat := s.cfg.fbBytes

/-- BLANK_FORCE or BLANK_SER: the logical level of the BLANK pin (R39). -/
def State.blanked (s : State) : Bool := s.blankForce || s.blankSer

end Sys2Proof.Machine
end

