-- ==== Sys2Proof/Machine/Operands.lean ====
section
/-! DEFINITION. The operand forms: fields of a payload (spec/00_scope.md R14), the cursor and the length of a transfer
(spec/40_frame_store.md R124, R125, R127), and the payload size of a control command (spec/43_control.md R201). -/

namespace Sys2Proof.Machine

/-- Byte k of a payload. Every use is below the payload's length, which its transaction has checked. -/
def byteAt (l : List Byte) (k : Nat) : Byte := l.getD k 0

/-- le16(l, k) = l[k] + 256 * l[k+1] (R14). -/
def le16 (l : List Byte) (k : Nat) : Half := byteAt l (k + 1) ++ byteAt l k

/-- le32(l, k) = l[k] + 2^8 * l[k+1] + 2^16 * l[k+2] + 2^24 * l[k+3] (R14). -/
def le32 (l : List Byte) (k : Nat) : Word := byteAt l (k + 3) ++ byteAt l (k + 2) ++ byteAt l (k + 1) ++ byteAt l k

/-- SET_GAMMA's payload as 256 entries: entry i at bytes 2i, 2i+1 (R61, R205). -/
def gammaOf (l : List Byte) : Vector Half 256 :=
  Vector.ofFn (fun i : Fin 256 => le16 l (2 * i.val))

/-- The address at which a WRITE on h starts: the cursor, or 0 where a READ has left the cursor at FB_BYTES (R124). -/
def writeAddr (s : State) (h : Handle) : Nat := if (s.slot h).pos = s.fbBytes then 0 else (s.slot h).pos

/-- min(len, FB_BYTES - a): the bytes that a transfer from address a moves (R67, R124, R125). -/
def transferLen (s : State) (len : Half) (a : Nat) : Nat := min len.toNat (s.fbBytes - a)

/-- SIZE of the delay and blank commands (R201). -/
def delaySize : Half := 4

/-- SIZE(SET_GAMMA) (R201). -/
def gammaSize : Half := 512

end Sys2Proof.Machine
end

