-- ==== Sys2Proof/Machine/Ops.lean ====
section
/-! DEFINITION. The named operations over the state: the frame buffer (spec/00_scope.md R14), handle slots, pins and trace
(R15), responses, and the prologue of every transaction (spec/40_frame_store.md R119). -/

namespace Sys2Proof.Machine

/-- What a step or a meaning answers. -/
abbrev Result := Host.Outcome State Fault Refusal

/-- `f` on a next state; a fault and a refusal as they are. -/
def mapNext (f : State → State) : Result → Result
  | .next s => .next (f s)
  | .fault r => .fault r
  | .refused r => .refused r

/-! ### The frame buffer -/

/-- FB[a]. -/
def Memory.read : Memory → Nat → Byte
  | [], _ => 0
  | (b, v) :: m, a => if b = a then v else Memory.read m a

/-- FB[a] <- v, keeping the canonical form. -/
def Memory.write : Memory → Nat → Byte → Memory
  | [], a, v => if v = 0 then [] else [(a, v)]
  | (b, u) :: m, a, v =>
    if a < b then (if v = 0 then (b, u) :: m else (a, v) :: (b, u) :: m)
    else if a = b then (if v = 0 then m else (a, v) :: m)
    else (b, u) :: Memory.write m a v

/-- [FB[a], ..., FB[a+n-1]]. -/
def Memory.readBytes (m : Memory) (a n : Nat) : List Byte := (List.range n).map (fun i => m.read (a + i))

/-- FB[a+i] <- l[i] for every i. -/
def Memory.writeBytes : Memory → Nat → List Byte → Memory
  | m, _, [] => m
  | m, a, b :: l => Memory.writeBytes (m.write a b) (a + 1) l

/-- The canonical form: addresses strictly rising, no byte listed that reads 0 anyway. -/
abbrev Memory.wf (m : Memory) : Prop := m.Pairwise (fun c d => c.1 < d.1) ∧ ∀ c ∈ m, c.2 ≠ 0

/-- No byte is listed at or above `limit`. -/
abbrev Memory.below (m : Memory) (limit : Nat) : Prop := ∀ c ∈ m, c.1 < limit

/-- MemRead(a, n), which requires a + n ≤ FB_BYTES (R14). -/
def State.memRead (s : State) (a n : Nat) : Option (List Byte) :=
  if a + n ≤ s.fbBytes then some (s.mem.readBytes a n) else none

/-- MemWrite(a, n, l), which requires a + n ≤ FB_BYTES (R14). -/
def State.memWrite (s : State) (a n : Nat) (l : List Byte) : Option State :=
  if a + n ≤ s.fbBytes then some { s with mem := s.mem.writeBytes a (l.take n) } else none

/-! ### Handle slots -/

def State.setSlot (s : State) (h : Handle) (v : Slot) : State := { s with slots := s.slots.set h.toNat v h.isLt }

/-- open[h] <- b -/
def State.setOpen (s : State) (h : Handle) (b : Bool) : State := s.setSlot h { s.slot h with isOpen := b }

/-- pos[h] <- a -/
def State.setPos (s : State) (h : Handle) (a : Nat) : State := s.setSlot h { s.slot h with pos := a }

/-- pend[h] <- w -/
def State.setPend (s : State) (h : Handle) (w : Option Waiter) : State := s.setSlot h { s.slot h with pend := w }

/-! ### Trace, pins and responses -/

/-- Appends a trace event (R40). -/
def State.emit (s : State) (e : Event) : State := { s with trace := s.trace ++ [e] }

/-- `Pin(P) <- level`: drives the pin and records the event, whether or not the level changed (R15). -/
def State.drive (s : State) : Pin → State
  | .dout l => { s with dout := l }.emit (.pinSet (.dout l))
  | .clk l => { s with clk := l }.emit (.pinSet (.clk l))
  | .lat l => { s with lat := l }.emit (.pinSet (.lat l))
  | .blank l => { s with blank := l }.emit (.pinSet (.blank l))

/-- `Wait(t)` (R15). -/
def State.wait (s : State) (t : Word) : State := s.emit (.delay t)

/-- `Pin(BLANK) <- level(BLANK, BLANK_FORCE or BLANK_SER)` (R39). -/
def State.driveBlank (s : State) : State := s.drive (.blank (s.cfg.blankLevel s.blanked))

/-- `respond(status, h, count, data)` (R15, R97). -/
def State.respond (s : State) (st : Status) (h : Handle) (count : Nat) (data : List Byte) : State :=
  s.emit (.resp (responseWord st h count) data)

/-- The bytes of an event at the port, as a transport carries them: those of a response, the word little-endian (R61); an
event of another kind is no response. -/
def responseBytes : Event → Option (List Byte)
  | .req _ => none
  | .resp w data => some (respBytes w data)
  | .pinSet _ => none
  | .delay _ => none
  | .frameReady _ => none

/-- `raise Status(S)`: COUNT 0, no data, nothing else changed (R15, R220). It takes the place of an exception: the block
has no trap to enter or leave (R233, R234). -/
def State.raise (s : State) (st : Status) (h : Handle) : State := s.respond st h 0 []

/-! ### The prologue (R119) -/

/-- Admission of a request other than CANCEL, and its Req event. While PORT is Held the request is not admitted: it waits,
and nothing happens. -/
def whenAdmitted (i : Instr) (body : State → Result) (s : State) : Result :=
  if s.port = .idle then body (s.emit (.req i.header)) else .next s

/-- The handle checks of a transaction other than OPEN and CANCEL. -/
def checkHandle (h : Handle) (body : State → Result) (s : State) : Result :=
  if s.bound h then
    if s.waiting h then .next (s.raise .busy h) else body s
  else .next (s.raise .badHandle h)

/-- The prologue of CLOSE, WRITE, READ and CTRL. -/
def onHandle (i : Instr) (h : Handle) (body : State → Result) : State → Result := whenAdmitted i (checkHandle h body)

/-- The prologue of CANCEL: no admission, no BUSY check. -/
def onCancel (i : Instr) (h : Handle) (body : State → Result) (s : State) : Result :=
  let s1 := s.emit (.req i.header)
  if s1.bound h then body s1 else .next (s1.raise .badHandle h)

/-- A request that decodes as ILLEGAL: its response, and nothing else (R100, R226). It is held like any other request while
PORT is Held. -/
def illegalRequest (w : Word) (s : State) : Result :=
  if s.port = .idle then .next ((s.emit (.req w)).raise .illegal (headerHandle w)) else .next s

end Sys2Proof.Machine
end

