-- ==== Sys2Proof/Machine/Control.lean ====
section
/-! DEFINITION. The Control Plane commands (spec/43_control.md). -/

namespace Sys2Proof.Machine

/-- R202's checks for a supported command of the given size, then its effect and an OK response. -/
def ctrlBody (size : Half) (h : Handle) (len : Half) (x : Bool) (effect : State → State) (s : State) : Result :=
  if len ≠ size then .next (s.raise .badLen h)
  else if x then .next (s.raise .fault h)
  else .next ((effect s).respond .ok h 0 [])

/-- T_LAT <- t -/
def setLatchDelay (t : Word) (s : State) : State := { s with tLat := t }

/-- T_CLK <- t -/
def setClockDelay (t : Word) (s : State) : State := { s with tClk := t }

/-- GT <- g, all 256 entries at once -/
def setGamma (g : Vector Half 256) (s : State) : State := { s with gt := g }

/-- BLANK_FORCE <- b, and the BLANK pin follows -/
def setBlank (b : Bool) (s : State) : State := { s with blankForce := b }.driveBlank

/-- CTRL.SET_LATCH_DELAY (R203). -/
def execSetLatchDelay (h : Handle) (len : Half) (p : List Byte) (x : Bool) (s : State) : Result :=
  onHandle (.setLatchDelay h len p x) h (ctrlBody delaySize h len x (setLatchDelay (le32 p 0))) s

/-- CTRL.SET_CLOCK_DELAY (R204). It never writes T_LAT (R208). -/
def execSetClockDelay (h : Handle) (len : Half) (p : List Byte) (x : Bool) (s : State) : Result :=
  onHandle (.setClockDelay h len p x) h (ctrlBody delaySize h len x (setClockDelay (le32 p 0))) s

/-- CTRL.SET_GAMMA (R205). -/
def execSetGamma (h : Handle) (len : Half) (p : List Byte) (x : Bool) (s : State) : Result :=
  onHandle (.setGamma h len p x) h (ctrlBody gammaSize h len x (setGamma (gammaOf p))) s

/-- CTRL.SET_BLANK (R206). -/
def execSetBlank (h : Handle) (len : Half) (p : List Byte) (x : Bool) (s : State) : Result :=
  onHandle (.setBlank h len p x) h (ctrlBody delaySize h len x (setBlank (le32 p 0 != 0))) s

/-- CTRL with an unsupported command, after the prologue: NOT_SUPPORTED before any other check (R202, R224). -/
def unsupportedBody (h : Handle) (s : State) : Result := .next (s.raise .notSupported h)

/-- CTRL with CMD 4 .. 7 (R202). -/
def execCtrlUnsupported4To7 (h : Handle) (c : BitVec 2) (len : Half) (p : List Byte) (x : Bool) (s : State) : Result :=
  onHandle (.ctrlUnsupported4To7 h c len p x) h (unsupportedBody h) s

/-- CTRL with CMD 8 .. 15 (R202). -/
def execCtrlUnsupported8To15 (h : Handle) (c : BitVec 3) (len : Half) (p : List Byte) (x : Bool) (s : State) : Result :=
  onHandle (.ctrlUnsupported8To15 h c len p x) h (unsupportedBody h) s

end Sys2Proof.Machine
end

