-- ==== Sys2Proof/Machine/Synchronizer.lean ====
section
/-! DEFINITION. The Frame-Ready Synchronizer (spec/41_synchronizer.md), with the two halves of a blocking READ
(spec/40_frame_store.md R126, R127). -/

namespace Sys2Proof.Machine

/-- CommitStart(h, n) (R151): the port is held and the emission is about to begin; the WRITE has no response yet. -/
def commitStart (h : Handle) (n : Nat) (s : State) : State := { s with port := .held h n, ser := .run 0 }

/-- Register (R126): observes CNT and registers the waiter, in one step. -/
def register (h : Handle) (len : Half) (x : Bool) (s : State) : State := s.setPend h (some ⟨s.cnt, len, x⟩)

/-- CompleteWaiter for the record `w` of handle h (R127). MemRead(0, n) is within the frame, since n ≤ FB_BYTES. -/
def completeWaiter (h : Handle) (w : Waiter) (s : State) : State :=
  let s1 := s.setPend h none
  if w.xferErr then s1.raise .fault h
  else
    let n := min w.maxLen.toNat s1.fbBytes
    (s1.setPos h n).respond .ok h n (s1.mem.readBytes 0 n)

/-- Handle h's turn in the release of the waiters (R153). -/
def releaseHandle (s : State) (h : Handle) : State :=
  match (s.slot h).pend with
  | none => s
  | some w => completeWaiter h w s

/-- Every waiter is completed, in ascending handle order (R153, R154). -/
def releaseWaiters (s : State) : State := s.cfg.handleNumbers.foldl releaseHandle s

/-- CNT <- (CNT + 1) mod 2^CNT_W, and the FrameReady event with the new value (R152, R153). -/
def countFrame (s : State) : State :=
  let c := (s.cnt + 1) % 2 ^ s.cfg.cntW
  { s with cnt := c }.emit (.frameReady c)

/-- The frame-ready step, for the committing WRITE's h and n (R153). -/
def frameReady (h : Handle) (n : Nat) (s : State) : State :=
  ({ (releaseWaiters (countFrame s)).setPos h 0 with port := .idle }).respond .ok h n []

/-- The frame-ready step, if it is enabled: PORT = Held(h, n) and SER = Idle (R153). -/
def frameReadyStep (s : State) : Option State :=
  match s.port, s.ser with
  | .held h n, .idle => some (frameReady h n s)
  | _, _ => none

end Sys2Proof.Machine
end

