-- ==== Sys2Proof/Machine/FrameStore.lean ====
section
/-! DEFINITION. The Frame Store transactions (spec/40_frame_store.md): OPEN, CLOSE, WRITE, READ, CANCEL. -/

namespace Sys2Proof.Machine

/-- The least h < MAX_HANDLES with not open[h] (R120). -/
def freeHandle (s : State) : Option Handle := s.cfg.handleNumbers.find? (fun h => !(s.slot h).isOpen)

/-- OPEN after the prologue (R120). -/
def openBody (s : State) : Result :=
  match freeHandle s with
  | some h => .next ((s.setSlot h ⟨true, 0, none⟩).respond .ok h 0 [])
  | none => .next (s.raise .noHandle 0)

/-- OPEN (R120). -/
def execOpen (s : State) : Result := whenAdmitted .openHandle openBody s

/-- CLOSE after the prologue (R122). -/
def closeBody (h : Handle) (s : State) : Result := .next ((s.setOpen h false).respond .ok h 0 [])

/-- CLOSE (R122). -/
def execClose (h : Handle) (s : State) : Result := onHandle (.close h) h (closeBody h) s

/-- WRITE after the copy of n bytes to address a: a commit at the boundary, else the cursor moves on (R124). -/
def writeDone (h : Handle) (a n : Nat) (s : State) : State :=
  if a + n = s.fbBytes then commitStart h n s else (s.setPos h (a + n)).respond .ok h n []

/-- WRITE after the prologue (R124). -/
def writeBody (h : Handle) (len : Half) (p : List Byte) (x : Bool) (s : State) : Result :=
  if x then .next (s.raise .fault h)
  else
    let a := writeAddr s h
    let n := transferLen s len a
    match s.memWrite a n p with
    | some s1 => .next (writeDone h a n s1)
    | none => .fault .outsideFrame

/-- WRITE (R124). -/
def execWrite (h : Handle) (len : Half) (p : List Byte) (x : Bool) (s : State) : Result :=
  onHandle (.write h len p x) h (writeBody h len p x) s

/-- The copy of a READ that does not block (R125). -/
def readNow (h : Handle) (len : Half) (s : State) : Result :=
  let a := (s.slot h).pos
  let n := transferLen s len a
  match s.memRead a n with
  | some d => .next ((s.setPos h (a + n)).respond .ok h n d)
  | none => .fault .outsideFrame

/-- READ after the prologue (R125): end of frame, registration, or an immediate copy. -/
def readBody (h : Handle) (nb : Bool) (len : Half) (x : Bool) (s : State) : Result :=
  if (s.slot h).pos = s.fbBytes then .next ((s.setPos h 0).respond .ok h 0 [])
  else if (s.slot h).pos = 0 ∧ nb = false then .next (register h len x s)
  else if x then .next (s.raise .fault h)
  else readNow h len s

/-- READ (R125). -/
def execRead (h : Handle) (nb : Bool) (len : Half) (x : Bool) (s : State) : Result :=
  onHandle (.read h nb len x) h (readBody h nb len x) s

/-- CANCEL after the prologue (R128). The first response is the blocked READ's. -/
def cancelBody (h : Handle) (s : State) : Result :=
  if s.waiting h then .next (((s.setPend h none).raise .interrupted h).respond .ok h 1 [])
  else .next (s.respond .ok h 0 [])

/-- CANCEL (R128). -/
def execCancel (h : Handle) (s : State) : Result := onCancel (.cancel h) h (cancelBody h) s

end Sys2Proof.Machine
end

