-- ==== Sys2Proof/Machine/Dispatch.lean ====
section
/-! DEFINITION. The meaning of every transaction, one arm per constructor of Instr. -/

namespace Sys2Proof.Machine

def exec (i : Instr) (s : State) : Host.Outcome State Fault Refusal :=
  match i with
  | .openHandle => Sys2Proof.Machine.execOpen s
  | .close h => Sys2Proof.Machine.execClose h s
  | .write h len p x => Sys2Proof.Machine.execWrite h len p x s
  | .read h nb len x => Sys2Proof.Machine.execRead h nb len x s
  | .setLatchDelay h len p x => Sys2Proof.Machine.execSetLatchDelay h len p x s
  | .setClockDelay h len p x => Sys2Proof.Machine.execSetClockDelay h len p x s
  | .setGamma h len p x => Sys2Proof.Machine.execSetGamma h len p x s
  | .setBlank h len p x => Sys2Proof.Machine.execSetBlank h len p x s
  | .ctrlUnsupported4To7 h c len p x => Sys2Proof.Machine.execCtrlUnsupported4To7 h c len p x s
  | .ctrlUnsupported8To15 h c len p x => Sys2Proof.Machine.execCtrlUnsupported8To15 h c len p x s
  | .cancel h => Sys2Proof.Machine.execCancel h s

end Sys2Proof.Machine
end

