-- ==== Sys2Proof/Machine/Serializer.lean ====
section
/-! DEFINITION. The Hardware Serializer (spec/42_serializer.md). -/

namespace Sys2Proof.Machine

/-! ### Data path (R175 to R177) -/

/-- PIX(cc, p) = FB[PADDR(cc, p)] (R175). -/
def pix (s : State) (cc p : Nat) : Byte := s.mem.read (s.cfg.paddr cc p)

/-- CODE(v) = GT[v] & mask_N (R176). -/
def code (s : State) (v : Byte) : Half := s.gt[v.toNat]'v.isLt &&& maskBits 16 s.cfg.gammaBits

/-- b(cc, j, p): line p's bit at pulse j, most significant first, then padding zeros (R177). -/
def lineBit (s : State) (cc j p : Nat) : Bool :=
  decide (j < s.cfg.gammaBits) && (code s (pix s cc p)).getLsbD (s.cfg.gammaBits - 1 - j)

/-- WORD(cc, j): bit p is line p's bit; bits outside LINES are 0 (R177, R186). -/
def dataWord (s : State) (cc j : Nat) : DoutWord :=
  s.cfg.lines.foldl (fun w p => w ||| ((if lineBit s cc j p then (1 : DoutWord) else 0) <<< p)) 0

/-! ### The steps of an emission (R180 to R184) -/

/-- A serializer step. `dout` carries a logical word, `clk` and `lat` a logical level. -/
inductive SerStep where
  | blankOn
  | dout (w : DoutWord)
  | clk (a : Bool)
  | waitClk
  | lat (a : Bool)
  | waitLat
  | finish
  deriving DecidableEq, Repr

/-- PULSE(w) (R181). -/
def pulseSteps (w : DoutWord) : List SerStep := [.dout w, .clk true, .waitClk, .clk false, .waitClk]

/-- The latch pulse (R183). -/
def latchSteps : List SerStep := [.lat true, .waitLat, .lat false, .waitLat]

/-- EMIT (R180). -/
def emission (s : State) : List SerStep :=
  [.blankOn]
    ++ s.cfg.ccOrder.flatMap (fun cc => (List.range s.cfg.nativeBits).flatMap (fun j => pulseSteps (dataWord s cc j)))
    ++ latchSteps ++ [.finish]

/-- Step k of EMIT, found by arithmetic on k. That it is the k-th entry of the list `emission` is an obligation. -/
def emissionAt (s : State) (k : Nat) : Option SerStep :=
  let c := s.cfg
  if k = 0 then some .blankOn
  else if k ≤ 5 * c.pulses then
    let q := (k - 1) / 5
    (pulseSteps (dataWord s (c.ccAt (q / c.nativeBits)) (q % c.nativeBits)))[(k - 1) % 5]?
  else (latchSteps ++ [.finish])[k - (5 * c.pulses + 1)]?

/-- The effect of step k (R180 to R184), SER included: the last step sets it to Idle, every other advances it. -/
def perform (k : Nat) (s : State) : SerStep → State
  | .blankOn => { s with blankSer := true, ser := .run (k + 1) }.drive (.blank (s.cfg.blankLevel true))
  | .dout w => { s with ser := .run (k + 1) }.drive (.dout (s.cfg.dlevel w))
  | .clk a => { s with ser := .run (k + 1) }.drive (.clk (s.cfg.clkLevel a))
  | .waitClk => { s with ser := .run (k + 1) }.wait s.tClk
  | .lat a => { s with ser := .run (k + 1) }.drive (.lat (s.cfg.latLevel a))
  | .waitLat => { s with ser := .run (k + 1) }.wait s.tLat
  | .finish => { s with blankSer := false, ser := .idle }.drive (.blank (s.cfg.blankLevel s.blankForce))

/-- The serializer's next step, if it is running. -/
def serializerStep (s : State) : Option State :=
  match s.ser with
  | .idle => none
  | .run k => (emissionAt s k).map (perform k s)

end Sys2Proof.Machine
end

