-- ==== Sys2Proof/Machine/Agents.lean ====
section
/-! DEFINITION. The agents and their steps (spec/00_scope.md R9, R10; spec/20_memory.md R72; spec/60_exceptions.md R231,
R242), and the block's bring-up (spec/70_reset_and_hazards.md R250). -/

namespace Sys2Proof.Machine

/-! ### Requests -/

/-- A request as the port takes it: the transaction it decodes to, or ILLEGAL (R100, R119). -/
def runRequest (r : Request) (s : State) : Result :=
  match decodeRequest r with
  | .ok i => exec i s
  | .error _ => illegalRequest r.header s

/-- CANCEL needs no port admission (R119, R128). -/
def isCancel (r : Request) : Bool :=
  match decodeRequest r with
  | .ok (.cancel _) => true
  | _ => false

/-- The request can be admitted now (R119). -/
def admissible (s : State) (r : Request) : Bool := decide (s.port = .idle) || isCancel r

/-! ### Host clients (R9, R10) -/

/-- The request that a client presents: its next one, unless it still waits for a response (R10). -/
def Client.presents (c : Client) : Option Request :=
  match c.waits with
  | some _ => none
  | none => c.script.head?

/-- The client has an admissible request. -/
def Client.ready (s : State) (c : Client) : Bool :=
  match c.presents with
  | some r => admissible s r
  | none => false

/-- Client k's next request is taken off its script. -/
def State.takeRequest (s : State) (k : Nat) : State :=
  { s with clients := s.clients.modify k (fun c => { c with script := c.script.tail }) }

/-- Client k waits when its transaction on h has started without a response (R126, R151). -/
def noteWait (k : Nat) (h : Handle) (before after : State) : State :=
  if after.outstanding h && !before.outstanding h then
    { after with clients := after.clients.modify k (fun c => { c with waits := some h }) }
  else after

/-- A client whose transaction has been responded to waits no longer. -/
def Client.release (s : State) (c : Client) : Client :=
  match c.waits with
  | some h => if s.outstanding h then c else { c with waits := none }
  | none => c

/-- Every client learns of its response; the last thing of every step. -/
def settle (s : State) : State := { s with clients := s.clients.map (Client.release s) }

/-- Client k's step: its request, if it presents one that can be admitted; else nothing. -/
def clientStep (k : Nat) (s : State) : Result :=
  match s.clients[k]?.bind Client.presents with
  | none => .next s
  | some r =>
    if admissible s r then
      if r.framed then mapNext (noteWait k (headerHandle r.header) s) (runRequest r (s.takeRequest k))
      else .refused .unframedRequest
    else .next s

/-! ### The host interrupt source (R9, R232) -/

/-- Its next CANCEL, at any step. -/
def interruptStep (s : State) : Result :=
  match s.irq with
  | [] => .next s
  | h :: rest => exec (.cancel h) { s with irq := rest }

/-! ### One step -/

/-- The step of the chosen agent; nothing happens if the agent has no step to take. -/
def agentStep (c : Choice) (s : State) : Result :=
  match c with
  | .client k => clientStep k s
  | .interrupt => interruptStep s
  | .serializer => .next ((serializerStep s).getD s)
  | .frameReady => .next ((frameReadyStep s).getD s)

/-- The agent taken when the list of choices is used up: the serializer, the frame-ready step, the first client with an
admissible request, the interrupt source. DESIGN CHOICE (log 3): the spec gives no order (D47, D54). -/
def defaultChoice (s : State) : Option Choice :=
  if s.ser ≠ .idle then some .serializer
  else if s.port ≠ .idle then some .frameReady
  else match s.clients.findIdx? (Client.ready s) with
    | some k => some (.client k)
    | none => if s.irq = [] then none else some .interrupt

/-- Which agent moves (R9, R231): the next choice of the list, or the default. -/
def nextChoice (s : State) : Option Choice :=
  match s.sched with
  | c :: _ => some c
  | [] => defaultChoice s

/-- One step of the machine. With an ill-formed configuration there is no device (R229). When no agent can move, nothing
happens: the block waits for a request (R251, R271). -/
def deviceStep (s : State) : Result :=
  if s.cfg.wf then
    match nextChoice s with
    | none => .next s
    | some c => mapNext settle (agentStep c { s with sched := s.sched.tail })
  else .refused .illFormedConfig

/-- Reset as bring-up: the configuration is checked, and a device is made (R250, R252). -/
def bringUp (c : Config) : Result := if c.wf then .next (State.resetWith c) else .refused .illFormedConfig

/-- The state in which the very next step takes request `r`: a new client presents it and is chosen. Where the port is held
and `r` needs it, the port is free (R119). -/
def presentRequest (r : Request) (s : State) : State :=
  let s1 := if admissible s r then s else { s with port := .idle, ser := .idle }
  { s1 with clients := s1.clients ++ [⟨[r], none⟩], sched := .client s1.clients.length :: s1.sched }

end Sys2Proof.Machine
end

