-- ==== Sys2Proof/Machine/Step.lean ====
section
/-! DEFINITION. The step, and where a request is put for the next step to take it. -/

namespace Sys2Proof.Machine

/-- One step of the machine: one atomic step of one agent (spec/00_scope.md R9, spec/20_memory.md R72). -/
def step (s : State) : Host.Outcome State Fault Refusal := deviceStep s

/-- `s` with a client that presents the request of the given header word (payload of zeros, XFER_ERR 0), chosen for the
next step (log 11). -/
def State.withFetchWord (s : State) (nbits w : Nat) : State := presentRequest (tableRequest nbits w) s

end Sys2Proof.Machine
end

