-- ==== Sys2Proof/Machine/Pseudo.lean ====
section
/-! DEFINITION. The lines of the assembler syntax (spec/30_encoding.md R105) as data, the request each encodes as, and the
pseudo-instructions with what they expand to (R106). -/

namespace Sys2Proof.Machine

/-! ### The assembler's lines (R105) -/

/-- One line, without its label; the text itself is not modelled. -/
inductive Line where
  | openLine
  | close (h : Handle)
  | write (h : Handle) (p : List Byte)
  | read (h : Handle) (len : Half)
  | readNb (h : Handle) (len : Half)
  | setLatchDelay (h : Handle) (t : Word)
  | setClockDelay (h : Handle) (t : Word)
  | setGamma (h : Handle) (g : Vector Half 256)
  | setBlank (h : Handle) (v : Word)
  | ctrl (h : Handle) (cmd : BitVec 4) (p : List Byte)
  | cancel (h : Handle)
  deriving DecidableEq, Repr

/-- A gamma table as SET_GAMMA's payload: entry i at bytes 2i, 2i+1, the low byte first (R61). -/
def gammaBytes (g : Vector Half 256) : List Byte := g.toList.flatMap (fun v => [v.extractLsb' 0 8, v.extractLsb' 8 8])

/-- `CTRL h, cmd, p` -/
def ctrlRequest (h : Handle) (cmd : BitVec 4) (p : List Byte) (x : Bool) : Request :=
  ⟨mkHeader 5 h false cmd (BitVec.ofNat 16 p.length), p, x⟩

/-- The request of a line; `x` says whether the line has the suffix `!xfer`. -/
def assemble (l : Line) (x : Bool) : Request :=
  match l with
  | .openLine => ⟨mkHeader 1 0 false 0 0, [], x⟩
  | .close h => ⟨mkHeader 2 h false 0 0, [], x⟩
  | .write h p => ⟨mkHeader 3 h false 0 (BitVec.ofNat 16 p.length), p, x⟩
  | .read h len => ⟨mkHeader 4 h false 0 len, [], x⟩
  | .readNb h len => ⟨mkHeader 4 h true 0 len, [], x⟩
  | .setLatchDelay h t => ctrlRequest h 0 (wordBytes t) x
  | .setClockDelay h t => ctrlRequest h 1 (wordBytes t) x
  | .setGamma h g => ctrlRequest h 2 (gammaBytes g) x
  | .setBlank h v => ctrlRequest h 3 (wordBytes v) x
  | .ctrl h cmd p => ctrlRequest h cmd p x
  | .cancel h => ⟨mkHeader 6 h false 0 0, [], x⟩

/-! ### Pseudo-instructions (R106)

WRITEFRAME and READFRAME issue each transaction after the response to the one before, and what they issue depends on the
COUNTs of those responses. Each is a function of the response words that have come so far: the list of all transactions
issued so far, the last of them still unanswered unless the expansion has ended. -/

/-- k of R106: the length of WRITEFRAME's pieces and of READFRAME's first READ. -/
def chunkSize (c : Config) : Nat := min c.fbBytes 65535

/-- F[0 .. k-1], F[k .. 2k-1], and so on: piece j is F[jk .. (j+1)k-1], the last one shorter. -/
def chunks (k : Nat) (f : List Byte) : List (List Byte) :=
  (List.range ((f.length + k - 1) / k)).map (fun j => (f.drop (j * k)).take k)

/-- `WRITE h, p` (R105). -/
def writeOf (h : Handle) (p : List Byte) : Instr := .write h (BitVec.ofNat 16 p.length) p false

/-- The WRITEs that offer the given pieces, for the responses that have come: a piece whose COUNT is below its length is
followed by its remaining bytes, resubmitted, and any other by the next piece (R106, R265). -/
def writePieces (h : Handle) : List (List Byte) → List Word → List Instr
  | [], _ => []
  | p :: _, [] => [writeOf h p]
  | p :: ps, w :: ws =>
    writeOf h p :: if respCount w < p.length then writePieces h (p.drop (respCount w) :: ps) ws else writePieces h ps ws

/-- WRITEFRAME h, F (R106), for the responses that have come. -/
def writeFrame (c : Config) (h : Handle) (f : List Byte) (responses : List Word) : List Instr :=
  writePieces h (chunks (chunkSize c) f) responses

/-- `READ h, len` (R105). -/
def readOf (h : Handle) (len : Nat) : Instr := .read h false (BitVec.ofNat 16 len) false

/-- The READs issued while `left` bytes have still to arrive, for the responses that have come. -/
def readPieces (h : Handle) (len : Nat) : Nat → List Word → List Instr
  | 0, _ => []
  | _ + 1, [] => [readOf h len]
  | left + 1, w :: ws => readOf h len :: readPieces h len (left + 1 - respCount w) ws

/-- READFRAME h (R106), for the responses that have come: READs until FB_BYTES bytes have arrived. A READ that returns fewer
bytes, or that ends INTERRUPTED with COUNT 0, is followed by another. DESIGN CHOICE (unsafe, log 23): the spec gives the
further READs no length; here each has the first one's, min(FB_BYTES, 65535). -/
def readFrame (c : Config) (h : Handle) (responses : List Word) : List Instr :=
  readPieces h (chunkSize c) c.fbBytes responses

/-- `CTRL.SET_BLANK h, v` (R105). -/
def setBlankOf (h : Handle) (v : Word) : Instr := .setBlank h 4 (wordBytes v) false

/-- BLANK h (R106). -/
def blank (h : Handle) : Instr := setBlankOf h 1

/-- UNBLANK h (R106). -/
def unblank (h : Handle) : Instr := setBlankOf h 0

/-- GAMMA.LINEAR h (R106), with the default GT_RESET of R31. -/
def gammaLinear (c : Config) (h : Handle) : Instr := .setGamma h 512 (gammaBytes (defaultGamma c.gammaBits)) false

end Sys2Proof.Machine
end

