-- ==== Sys2Proof/Safety.lean ====
section
/-! DEFINITION. The terms in which claims are made: when a transaction executes normally, the invariant of the state, and
what a trace says. -/

namespace Sys2Proof.Machine

/-! ### Transactions -/

/-- A transaction on h passes the prologue (R119): the port is free, the handle is bound, and no READ is pending on it. -/
abbrev State.ready (s : State) (h : Handle) : Prop := s.port = .idle ∧ s.bound h = true ∧ s.waiting h = false

/-- `s` with the Req event of transaction i recorded: what the body of a transaction starts from (R119). -/
def State.received (s : State) (i : Instr) : State := s.emit (.req i.header)

/-! ### Emissions -/

/-- The trace event of a serializer step (R180 to R184). -/
def stepEvent (s : State) : SerStep → Event
  | .blankOn => .pinSet (.blank (s.cfg.blankLevel true))
  | .dout w => .pinSet (.dout (s.cfg.dlevel w))
  | .clk a => .pinSet (.clk (s.cfg.clkLevel a))
  | .waitClk => .delay s.tClk
  | .lat a => .pinSet (.lat (s.cfg.latLevel a))
  | .waitLat => .delay s.tLat
  | .finish => .pinSet (.blank (s.cfg.blankLevel s.blankForce))

/-- n serializer steps in a row; none once the serializer is idle. -/
def serializerRun : Nat → State → State
  | 0, s => s
  | n + 1, s =>
    match serializerStep s with
    | some t => serializerRun n t
    | none => s

/-- CLK is active before step k: the second and third step after a DOUT step of a pulse have been reached (R181). -/
def clkActive (c : Config) : Ser → Bool
  | .idle => false
  | .run k => decide (1 ≤ k ∧ k ≤ 5 * c.pulses ∧ ((k - 1) % 5 = 2 ∨ (k - 1) % 5 = 3))

/-- LAT is active before step k (R183). -/
def latActive (c : Config) : Ser → Bool
  | .idle => false
  | .run k => decide (k = 5 * c.pulses + 2 ∨ k = 5 * c.pulses + 3)

/-- The response of handle h's waiter w in a frame-ready step (R127). -/
def waiterEvent (s : State) (h : Handle) (w : Waiter) : Event :=
  if w.xferErr then .resp (responseWord .fault h 0) []
  else .resp (responseWord .ok h (min w.maxLen.toNat s.fbBytes)) (s.mem.readBytes 0 (min w.maxLen.toNat s.fbBytes))

/-- A handle slot after its turn in a frame-ready step: the waiter is gone, and its cursor stands after the bytes it got
(R127). A slot without a waiter stays as it is. -/
def completedSlot (s : State) (v : Slot) : Slot :=
  match v.pend with
  | none => v
  | some w => ⟨v.isOpen, if w.xferErr then v.pos else min w.maxLen.toNat s.fbBytes, none⟩

/-- The responses of all waiters in a frame-ready step, in ascending handle order (R153). -/
def waiterEvents (s : State) : List Event :=
  s.cfg.handleNumbers.filterMap (fun h => (s.slot h).pend.map (waiterEvent s h))

/-! ### Traces -/

/-- The number of FrameReady events: of emissions that have ended (R157). -/
def frames (t : List Event) : Nat := t.countP (fun e => match e with | .frameReady _ => true | _ => false)

/-- The lower bound on the real time of a trace, in nanoseconds: the sum of its Delay events (R15, R270). -/
def minDuration (t : List Event) : Nat := (t.map (fun e => match e with | .delay d => d.toNat | _ => 0)).sum

/-! ### The invariant -/

/-- What every state that a run reaches satisfies (R12, R20 to R40, R151 to R155, R180 to R186). -/
structure State.Inv (s : State) : Prop where
  /-- the configuration is well formed (R12) -/
  config : s.cfg.wf = true
  /-- the frame buffer has its canonical form -/
  canonical : Memory.wf s.mem
  /-- no byte lies at FB_BYTES or above (R64) -/
  inFrame : Memory.below s.mem s.fbBytes
  /-- CNT is a CNT_W-bit value (R28) -/
  counter : s.cnt < 2 ^ s.cfg.cntW
  /-- every cursor is in 0 .. FB_BYTES (R23) -/
  cursors : ∀ h, (s.slot h).pos ≤ s.fbBytes
  /-- a slot at MAX_HANDLES or above is as reset left it (R11) -/
  absent : ∀ h : Handle, s.cfg.maxHandles ≤ h.toNat → s.slot h = Slot.reset
  /-- a waiter's handle is open with its cursor at 0, and it observed the present CNT (R126, R127) -/
  waiters : ∀ h w, (s.slot h).pend = some w → (s.slot h).isOpen = true ∧ (s.slot h).pos = 0 ∧ w.v = s.cnt
  /-- the committing WRITE's handle is bound with no READ pending, and its COUNT fits (R97, R119, R151) -/
  held : ∀ h n, s.port = .held h n → s.bound h = true ∧ s.waiting h = false ∧ n < 2 ^ 16
  /-- an emission runs only while the port is held (R26) -/
  exclusive : s.port = .idle → s.ser = .idle
  /-- SER indexes a step of the emission (R25) -/
  stepIndex : ∀ k, s.ser = .run k → k < s.cfg.emissionSteps
  /-- the BLANK pin follows BLANK_FORCE and BLANK_SER (R39) -/
  blankPin : s.blank = s.cfg.blankLevel s.blanked
  /-- the serializer blanks the matrix from its first step on (R180) -/
  blanking : ∀ k, s.ser = .run k → 0 < k → s.blankSer = true
  /-- and no longer after its last step (R184) -/
  unblanked : ∀ h n, s.port = .held h n → s.ser = .idle → s.blankSer = false
  /-- CLK is idle but for the active half of a pulse (R181) -/
  clkPin : s.clk = s.cfg.clkLevel (clkActive s.cfg s.ser)
  /-- LAT is idle but for the active half of the latch pulse (R183) -/
  latPin : s.lat = s.cfg.latLevel (latActive s.cfg s.ser)
  /-- a DOUT bit outside LINES is at the level of logical 0 (R39, R186) -/
  unwired : ∀ i, i ∉ s.cfg.lines → s.dout.getLsbD i = (decide (i < s.cfg.doutW) && s.cfg.dataActiveLow)
  /-- a client that waits has a transaction without a response (R10) -/
  clients : ∀ c ∈ s.clients, ∀ h, c.waits = some h → s.outstanding h = true

/-- A state in which nothing is going on: PORT and SER idle, and no admissible request (R271). Waiters may remain. -/
abbrev State.quiescent (s : State) : Prop :=
  s.port = .idle ∧ s.ser = .idle ∧ (∀ c ∈ s.clients, c.ready s = false) ∧ s.irq = []

end Sys2Proof.Machine
end

