-- ==== Sys2Proof/Certificates/Slice0/Obligations.lean ====
section
/-! DEFINITION. The statements for the provers. Each docstring names the rules of spec/ that it formalises. -/

open Sys2Proof Sys2Proof.Machine

/-! ### Encoding -/

/-- R90, R91, R100, R101, R104: every well-formed transaction is decoded from its own bytes, whatever bytes follow, with
every operand as it was. -/
def Obligations.DecodeEncodeRoundTrip : Prop :=
  ∀ (i : Instr) (rest : List Byte), i.wf = true → decodeBytes i.xferErr ((encode i).bytes ++ rest) = .ok (i, rest)

/-- R90, R98, R100: what is decoded from a framed request has that request's header and payload, so no bit of a header that
decodes is dropped; XFER_ERR is dropped only where it is ignored. -/
def Obligations.DecodedRequestReencodes : Prop :=
  ∀ (r : Request) (i : Instr), r.framed = true → decodeRequest r = .ok i →
    i.wf = true ∧ i.header = r.header ∧ i.payload = r.payload
    ∧ (i.xferErr = r.xferErr ∨ headerOp r.header = 1 ∨ headerOp r.header = 2 ∨ headerOp r.header = 6)

/-- R101: a header decodes to the transaction of row k exactly when it matches row k's mask and match; no header matches two
rows; a header is ILLEGAL exactly when it matches none. -/
def Obligations.HeadersMatchTheirTableRow : Prop :=
  (∀ (r : Request) (k : Nat), k < 11 →
    ((∃ i, decodeRequest r = .ok i ∧ i.row = k)
      ↔ r.header &&& (opcodeRows.getD k (0, 0)).2 = (opcodeRows.getD k (0, 0)).1))
  ∧ (∀ (w : Word) (k l : Nat), k < 11 → l < 11 →
      w &&& (opcodeRows.getD k (0, 0)).2 = (opcodeRows.getD k (0, 0)).1 →
      w &&& (opcodeRows.getD l (0, 0)).2 = (opcodeRows.getD l (0, 0)).1 → k = l)
  ∧ (∀ r : Request, (∃ e, decodeRequest r = .error e)
      ↔ ∀ k, k < 11 → r.header &&& (opcodeRows.getD k (0, 0)).2 ≠ (opcodeRows.getD k (0, 0)).1)

/-- R102: the encodings that decode as ILLEGAL, and no others. -/
def Obligations.IllegalEncodings : Prop :=
  ∀ r : Request, (∃ e, decodeRequest r = .error e) ↔
    (headerOp r.header = 0 ∨ 7 ≤ (headerOp r.header).toNat
    ∨ headerRsvd r.header ≠ 0
    ∨ (headerOp r.header = 1
        ∧ (headerHandle r.header ≠ 0 ∨ headerNb r.header = true ∨ headerCmd r.header ≠ 0 ∨ headerLen r.header ≠ 0))
    ∨ ((headerOp r.header = 2 ∨ headerOp r.header = 6)
        ∧ (headerNb r.header = true ∨ headerCmd r.header ≠ 0 ∨ headerLen r.header ≠ 0))
    ∨ (headerOp r.header = 3 ∧ (headerNb r.header = true ∨ headerCmd r.header ≠ 0))
    ∨ (headerOp r.header = 4 ∧ headerCmd r.header ≠ 0)
    ∨ (headerOp r.header = 5 ∧ headerNb r.header = true))

/-- R105 and the examples of 43_control.md and 95_test_vectors.md: words written out there decode as said there. -/
def Obligations.SpecWordsDecode : Prop :=
  decodeTableWord 32 0x10000000 = some .openHandle
  ∧ decodeTableWord 32 0x21000000 = some (.close 1)
  ∧ decodeTableWord 32 0x30000003 = some (.write 0 3 [0, 0, 0] false)
  ∧ decodeTableWord 32 0x42800006 = some (.read 2 true 6 false)
  ∧ decodeBytes false [0x04, 0x00, 0x00, 0x50, 0xF4, 0x01, 0x00, 0x00] = .ok (.setLatchDelay 0 4 [0xF4, 0x01, 0x00, 0x00] false, [])
  ∧ decodeBytes false [0x04, 0x00, 0x01, 0x50, 0xD0, 0x07, 0x00, 0x00] = .ok (.setClockDelay 0 4 [0xD0, 0x07, 0x00, 0x00] false, [])
  ∧ decodeTableWord 32 0x51070000 = some (.ctrlUnsupported4To7 1 3 0 [] false)
  ∧ decodeTableWord 32 0x61000000 = some (.cancel 1)
  ∧ decodeTableWord 32 0x70000000 = none

/-! ### Reset and configuration -/

/-- R251: what reset leaves in the elements that R251 lists, for every configuration, and the trace empty (R250). The pins are
in `ResetPinLevels`. -/
def Obligations.ResetState : Prop :=
  ∀ c : Config,
    (State.resetWith c).cnt = 0
    ∧ (∀ h, ((State.resetWith c).slot h).isOpen = false ∧ ((State.resetWith c).slot h).pos = 0
        ∧ ((State.resetWith c).slot h).pend = none)
    ∧ (State.resetWith c).port = .idle ∧ (State.resetWith c).ser = .idle
    ∧ (∀ a, (State.resetWith c).mem.read a = 0)
    ∧ (State.resetWith c).gt = c.gtReset
    ∧ (State.resetWith c).blankForce = false ∧ (State.resetWith c).blankSer = true
    ∧ (State.resetWith c).tClk = c.tClkResetNs ∧ (State.resetWith c).tLat = c.tLatResetNs
    ∧ (State.resetWith c).trace = []

/-- R39: the pin levels at reset. That DOUT has bits at DOUT_W and above at all, which are 0, is the model's choice of a 64-bit
DOUT (log 12). -/
def Obligations.ResetPinLevels : Prop :=
  ∀ c : Config, c.doutW ≤ 64 →
    (∀ b, b < c.doutW → (State.resetWith c).dout.getLsbD b = c.dataLevel false)
    ∧ (∀ b, c.doutW ≤ b → (State.resetWith c).dout.getLsbD b = false)
    ∧ (State.resetWith c).clk = c.clkLevel false
    ∧ (State.resetWith c).lat = c.latLevel false
    ∧ (State.resetWith c).blank = c.blankLevel true

/-- R12, R20, R250: a well-formed configuration comes up in a state that satisfies the invariant, the default one too (with
the model's values of the two OPEN parameters, log 1). -/
def Obligations.ResetSatisfiesInvariant : Prop :=
  (∀ c : Config, c.wf = true → (State.resetWith c).Inv) ∧ State.reset.Inv

/-- R229: a configuration that fails R12 yields no device, so that no step is ever taken; a well-formed one comes up. -/
def Obligations.IllFormedConfigurationRefused : Prop :=
  (∀ c : Config, c.wf = false → bringUp c = .refused .illFormedConfig)
  ∧ (∀ s : State, s.cfg.wf = false → step s = .refused .illFormedConfig)
  ∧ (∀ c : Config, c.wf = true → bringUp c = .next (State.resetWith c))

/-- R31: the default GT_RESET is the default gamma table of the default GAMMA_BITS; entry i of the default gamma table is the
n-bit reversal of (2^n - 1) * i / 255 rounded to the nearest integer, with no tie; for n = 12 the closed form holds. -/
def Obligations.DefaultGammaTable : Prop :=
  (∀ a b : Word, (Config.defaults a b).gtReset = defaultGamma (Config.defaults a b).gammaBits)
  ∧ (∀ (n : Nat) (i : Fin 256) (b : Nat), n ≤ 16 →
    ((defaultGamma n)[i]).getLsbD b = (decide (b < n) && (roundRamp n i.val).testBit (n - 1 - b)))
  ∧ (∀ n i : Nat, 510 * roundRamp n i < 2 * ((2 ^ n - 1) * i) + 255 ∧ 2 * ((2 ^ n - 1) * i) < 510 * roundRamp n i + 255)
  ∧ (∀ i : Nat, i < 256 → roundRamp 12 i = 16 * i + (2 * i + 17) / 34)

/-! ### The wiring map and the data path -/

/-- R70: the wiring map gives the frame byte of the logical row, column and component, always within the frame. -/
def Obligations.WiringMapStaysInFrame : Prop :=
  ∀ (c : Config) (cc p : Nat), c.wf = true → cc < 3 * c.cols → p ∈ c.lines →
    c.paddr cc p < c.fbBytes
    ∧ c.paddr cc p = cc + c.lrow p * (3 * c.cols)
    ∧ c.paddr cc p = c.offset (c.lrow p) (cc / 3) (cc % 3)

/-- R36, R38: LROW follows WIRING and ROTATE, and is a bijection from the lines onto the rows. -/
def Obligations.RowMapIsBijection : Prop :=
  ∀ c : Config, c.wf = true →
    (∀ r p, c.wiring[r]? = some p → c.lrow p = if c.rotate then c.rows - 1 - r else r)
    ∧ (∀ p, p ∈ c.lines → c.lrow p < c.rows)
    ∧ (∀ p q, p ∈ c.lines → q ∈ c.lines → c.lrow p = c.lrow q → p = q)
    ∧ (∀ r, r < c.rows → ∃ p, p ∈ c.lines ∧ c.lrow p = r)

/-- R177, R186: bit p of a data word is line p's code bit, the most significant first; it is 0 in the padding pulses and at
positions outside LINES. -/
def Obligations.DataWordBits : Prop :=
  ∀ (s : State) (cc j p : Nat), s.cfg.wf = true →
    (dataWord s cc j).getLsbD p
      = (decide (p ∈ s.cfg.lines) && decide (j < s.cfg.gammaBits)
          && (code s (pix s cc p)).getLsbD (s.cfg.gammaBits - 1 - j))

/-- R178: an N-bit register that starts as the line's code and is shifted left after each pulse has the data word's bit as its
top bit, in the padding pulses too. -/
def Obligations.ShiftRegisterGivesTheSameBits : Prop :=
  ∀ (s : State) (cc j p : Nat), s.cfg.wf = true →
    ((fun v : Half => (v <<< 1) &&& maskBits 16 s.cfg.gammaBits)^[j] (code s (pix s cc p))).getLsbD (s.cfg.gammaBits - 1)
      = lineBit s cc j p

/-- R30, R176: two gamma tables that agree on the low GAMMA_BITS bits of every entry give the same emission. -/
def Obligations.HighGammaBitsAreIgnored : Prop :=
  ∀ (s : State) (g : Vector Half 256),
    (∀ (i : Fin 256) (b : Nat), b < s.cfg.gammaBits → (g[i]).getLsbD b = (s.gt[i]).getLsbD b) →
    emission { s with gt := g } = emission s

/-- R185: the DOUT level of a data word, bit by bit. -/
def Obligations.DataPolarity : Prop :=
  ∀ (c : Config) (w : DoutWord) (b : Nat), c.doutW ≤ 64 →
    (c.dlevel w).getLsbD b = (if b < c.doutW then c.dataLevel (w.getLsbD b) else w.getLsbD b)

/-! ### The emission -/

/-- R180, R25: step k of the serializer is entry k of the list EMIT. -/
def Obligations.SerializerFollowsEmit : Prop :=
  ∀ (s : State) (k : Nat), s.cfg.wf = true → emissionAt s k = (emission s)[k]?

/-- R182, R187: an emission has 15*C*D + 6 steps and 3*C*D pulses. -/
def Obligations.EmissionLength : Prop :=
  ∀ s : State,
    (emission s).length = 15 * s.cfg.cols * s.cfg.nativeBits + 6
    ∧ s.cfg.emissionSteps = 15 * s.cfg.cols * s.cfg.nativeBits + 6
    ∧ (emission s).countP (fun st => match st with | .dout _ => true | _ => false) = 3 * s.cfg.cols * s.cfg.nativeBits

/-- R180, R184, R187, R189: from the commit, the serializer's own steps run through the whole of EMIT, one event a step, and
end with SER idle, the matrix unblanked unless forced, CLK and LAT idle, and the last data word on DOUT; nothing but the
pins, BLANK_SER, SER and the trace has changed. -/
def Obligations.EmissionRunsToItsEnd : Prop :=
  ∀ s : State, s.cfg.wf = true → s.ser = .run 0 →
    (∀ k, k < s.cfg.emissionSteps → (serializerRun k s).ser = .run k)
    ∧ (serializerRun s.cfg.emissionSteps s).ser = .idle
    ∧ (serializerRun s.cfg.emissionSteps s).trace = s.trace ++ (emission s).map (stepEvent s)
    ∧ (serializerRun s.cfg.emissionSteps s).blankSer = false
    ∧ (serializerRun s.cfg.emissionSteps s).blank = s.cfg.blankLevel s.blankForce
    ∧ (serializerRun s.cfg.emissionSteps s).clk = s.cfg.clkLevel false
    ∧ (serializerRun s.cfg.emissionSteps s).lat = s.cfg.latLevel false
    ∧ (serializerRun s.cfg.emissionSteps s).dout
        = s.cfg.dlevel (dataWord s (s.cfg.ccAt (3 * s.cfg.cols - 1)) (s.cfg.nativeBits - 1))
    ∧ { serializerRun s.cfg.emissionSteps s with
        ser := s.ser, trace := s.trace, blankSer := s.blankSer, blank := s.blank, clk := s.clk, lat := s.lat, dout := s.dout } = s

/-- R187, R270: the Delay events of an emission add up to 2*T_CLK*3*C*D + 2*T_LAT nanoseconds. -/
def Obligations.EmissionDuration : Prop :=
  ∀ s : State,
    minDuration ((emission s).map (stepEvent s))
      = 2 * s.tClk.toNat * (3 * s.cfg.cols * s.cfg.nativeBits) + 2 * s.tLat.toNat

/-- R190: a serializer step writes nothing but BLANK_SER, SER, the pins and the trace, and what it does to them depends on
nothing but FB, GT, T_CLK, T_LAT, BLANK_FORCE, the configuration and those elements themselves. -/
def Obligations.SerializerReadsAndWritesOnly : Prop :=
  (∀ s t : State, serializerStep s = some t →
    { t with ser := s.ser, trace := s.trace, blankSer := s.blankSer, blank := s.blank, clk := s.clk, lat := s.lat,
             dout := s.dout } = s)
  ∧ (∀ (s t : State) (slots : Vector Slot 16) (cnt : Nat) (port : Port) (clients : List Client) (irq : List Handle)
      (sched : List Choice),
      serializerStep s = some t →
      serializerStep { s with slots := slots, cnt := cnt, port := port, clients := clients, irq := irq, sched := sched }
        = some { t with slots := slots, cnt := cnt, port := port, clients := clients, irq := irq, sched := sched })

/-! ### Frame Store transactions -/

/-- R120: OPEN binds the least slot that is not open, with a fresh cursor of 0, and responds with its number. -/
def Obligations.OpenBindsLeastFreeHandle : Prop :=
  ∀ (s : State) (h : Handle), s.port = .idle → h.toNat < s.cfg.maxHandles → (s.slot h).isOpen = false →
    (∀ g : Handle, g.toNat < h.toNat → (s.slot g).isOpen = true) →
    exec .openHandle s
      = .next (((s.received .openHandle).setSlot h { isOpen := true, pos := 0, pend := none }).respond .ok h 0 [])

/-- R120, R228: OPEN with every slot open ends NOHANDLE and changes nothing. -/
def Obligations.OpenWithEverySlotOpen : Prop :=
  ∀ s : State, s.port = .idle → (∀ g : Handle, g.toNat < s.cfg.maxHandles → (s.slot g).isOpen = true) →
    exec .openHandle s = .next ((s.received .openHandle).respond .noHandle 0 0 [])

/-- R122: CLOSE releases the slot and changes nothing else. -/
def Obligations.CloseReleasesHandle : Prop :=
  ∀ (s : State) (h : Handle), s.ready h →
    exec (.close h) s
      = .next (((s.received (.close h)).setSlot h { s.slot h with isOpen := false }).respond .ok h 0 [])

/-- R124, R60: a WRITE that does not reach the boundary stores its n = min(len, FB_BYTES - a) bytes from address a (the
cursor, or 0 at FB_BYTES), moves the cursor to a + n, and responds OK with COUNT n; nothing else changes. -/
def Obligations.WriteBelowTheBoundary : Prop :=
  ∀ (s : State) (h : Handle) (len : Half) (p : List Byte),
    s.ready h → p.length = len.toNat → Memory.wf s.mem →
    writeAddr s h + transferLen s len (writeAddr s h) < s.fbBytes →
    ∃ t, exec (.write h len p false) s = .next t
      ∧ (∀ b, t.mem.read b
          = if writeAddr s h ≤ b ∧ b < writeAddr s h + transferLen s len (writeAddr s h) then p.getD (b - writeAddr s h) 0
            else s.mem.read b)
      ∧ Memory.wf t.mem
      ∧ t.slot h = { s.slot h with pos := writeAddr s h + transferLen s len (writeAddr s h) }
      ∧ (∀ g, g ≠ h → t.slot g = s.slot g)
      ∧ t.trace = s.trace ++ [.req (Instr.write h len p false).header,
          .resp (responseWord .ok h (transferLen s len (writeAddr s h))) []]
      ∧ { t with mem := s.mem, slots := s.slots, trace := s.trace } = s

/-- R124, R151: a WRITE that reaches the boundary stores its bytes and starts the commit: the port is held with its COUNT, the
emission is about to begin, and there is no response yet; nothing else changes. -/
def Obligations.WriteAtTheBoundaryCommits : Prop :=
  ∀ (s : State) (h : Handle) (len : Half) (p : List Byte),
    s.ready h → p.length = len.toNat → Memory.wf s.mem →
    writeAddr s h + transferLen s len (writeAddr s h) = s.fbBytes →
    ∃ t, exec (.write h len p false) s = .next t
      ∧ (∀ b, t.mem.read b
          = if writeAddr s h ≤ b ∧ b < writeAddr s h + transferLen s len (writeAddr s h) then p.getD (b - writeAddr s h) 0
            else s.mem.read b)
      ∧ Memory.wf t.mem
      ∧ t.port = .held h (transferLen s len (writeAddr s h))
      ∧ t.ser = .run 0
      ∧ t.trace = s.trace ++ [.req (Instr.write h len p false).header]
      ∧ { t with mem := s.mem, port := s.port, ser := s.ser, trace := s.trace } = s

/-- R125: a READ at the boundary returns zero bytes and resets the cursor, whatever NB and XFER_ERR say. -/
def Obligations.ReadAtEndOfFrame : Prop :=
  ∀ (s : State) (h : Handle) (nb : Bool) (len : Half) (x : Bool),
    s.ready h → (s.slot h).pos = s.fbBytes →
    exec (.read h nb len x) s
      = .next (((s.received (.read h nb len x)).setSlot h { s.slot h with pos := 0 }).respond .ok h 0 [])

/-- R126: a blocking READ at cursor 0 records CNT and registers as a waiter in one step, with no response; LEN = 0 waits
too, and XFER_ERR is only recorded. -/
def Obligations.BlockingReadRegisters : Prop :=
  ∀ (s : State) (h : Handle) (len : Half) (x : Bool),
    s.ready h → (s.slot h).pos = 0 → s.fbBytes ≠ 0 →
    exec (.read h false len x) s
      = .next ((s.received (.read h false len x)).setSlot h
          { s.slot h with pend := some { v := s.cnt, maxLen := len, xferErr := x } })

/-- R125: a READ that does not block returns n = min(len, FB_BYTES - pos) bytes from the cursor, moves the cursor by n, and
changes nothing else. -/
def Obligations.ImmediateReadReturnsBytes : Prop :=
  ∀ (s : State) (h : Handle) (nb : Bool) (len : Half),
    s.ready h → (s.slot h).pos < s.fbBytes → (nb = true ∨ (s.slot h).pos ≠ 0) →
    exec (.read h nb len false) s
      = .next (((s.received (.read h nb len false)).setSlot h
            { s.slot h with pos := (s.slot h).pos + min len.toNat (s.fbBytes - (s.slot h).pos) }).respond .ok h
          (min len.toNat (s.fbBytes - (s.slot h).pos))
          (s.mem.readBytes (s.slot h).pos (min len.toNat (s.fbBytes - (s.slot h).pos))))

/-- R128: CANCEL of a blocked READ removes the waiter, ends the READ INTERRUPTED and responds with COUNT 1, at any step, an
emission included. -/
def Obligations.CancelInterruptsBlockedRead : Prop :=
  ∀ (s : State) (h : Handle), s.bound h = true → s.waiting h = true →
    exec (.cancel h) s
      = .next ((((s.received (.cancel h)).setSlot h { s.slot h with pend := none }).respond .interrupted h 0 []).respond .ok h 1 [])

/-- R128: CANCEL with nothing to interrupt responds with COUNT 0 and changes nothing. -/
def Obligations.CancelWithoutWaiter : Prop :=
  ∀ (s : State) (h : Handle), s.bound h = true → s.waiting h = false →
    exec (.cancel h) s = .next ((s.received (.cancel h)).respond .ok h 0 [])

/-! ### Control -/

/-- R203: SET_LATCH_DELAY writes T_LAT, any value as given, and nothing else. -/
def Obligations.SetLatchDelayWritesLatchDelay : Prop :=
  ∀ (s : State) (h : Handle) (b0 b1 b2 b3 : Byte), s.ready h →
    exec (.setLatchDelay h 4 [b0, b1, b2, b3] false) s
      = .next ({ s.received (.setLatchDelay h 4 [b0, b1, b2, b3] false) with
          tLat := BitVec.ofNat 32 (b0.toNat + 2 ^ 8 * b1.toNat + 2 ^ 16 * b2.toNat + 2 ^ 24 * b3.toNat) }.respond .ok h 0 [])

/-- R204, R208: SET_CLOCK_DELAY writes T_CLK, any value as given, and nothing else. -/
def Obligations.SetClockDelayWritesClockDelay : Prop :=
  ∀ (s : State) (h : Handle) (b0 b1 b2 b3 : Byte), s.ready h →
    exec (.setClockDelay h 4 [b0, b1, b2, b3] false) s
      = .next ({ s.received (.setClockDelay h 4 [b0, b1, b2, b3] false) with
          tClk := BitVec.ofNat 32 (b0.toNat + 2 ^ 8 * b1.toNat + 2 ^ 16 * b2.toNat + 2 ^ 24 * b3.toNat) }.respond .ok h 0 [])

/-- R205: SET_GAMMA replaces all 256 entries in one step, every 16-bit value as given, and nothing else. -/
def Obligations.SetGammaReplacesTheTable : Prop :=
  ∀ (s : State) (h : Handle) (p : List Byte), s.ready h → p.length = 512 →
    ∃ t, exec (.setGamma h 512 p false) s = .next t
      ∧ (∀ i : Fin 256, (t.gt[i]).toNat = (p.getD (2 * i.val) 0).toNat + 256 * (p.getD (2 * i.val + 1) 0).toNat)
      ∧ t.trace = s.trace ++ [.req (Instr.setGamma h 512 p false).header, .resp (responseWord .ok h 0) []]
      ∧ { t with gt := s.gt, trace := s.trace } = s

/-- R206: SET_BLANK sets BLANK_FORCE to whether the payload is nonzero and drives BLANK, with a PinSet event, and changes
nothing else. -/
def Obligations.SetBlankForcesThePin : Prop :=
  ∀ (s : State) (h : Handle) (p : List Byte), s.ready h → p.length = 4 →
    exec (.setBlank h 4 p false) s
      = .next ({ s with
          blankForce := !decide (p = [0, 0, 0, 0]),
          blank := s.cfg.blankLevel (!decide (p = [0, 0, 0, 0]) || s.blankSer),
          trace := s.trace ++ [.req (Instr.setBlank h 4 p false).header,
            .pinSet (.blank (s.cfg.blankLevel (!decide (p = [0, 0, 0, 0]) || s.blankSer))),
            .resp (responseWord .ok h 0) []] })

/-- R225: a supported command whose LEN is not its size ends BADLEN, whatever XFER_ERR says, and changes nothing. -/
def Obligations.WrongControlLength : Prop :=
  ∀ (s : State) (h : Handle) (len : Half) (p : List Byte) (x : Bool), s.ready h →
    (len ≠ 4 →
      exec (.setLatchDelay h len p x) s = .next ((s.received (.setLatchDelay h len p x)).respond .badLen h 0 [])
      ∧ exec (.setClockDelay h len p x) s = .next ((s.received (.setClockDelay h len p x)).respond .badLen h 0 [])
      ∧ exec (.setBlank h len p x) s = .next ((s.received (.setBlank h len p x)).respond .badLen h 0 []))
    ∧ (len ≠ 512 →
      exec (.setGamma h len p x) s = .next ((s.received (.setGamma h len p x)).respond .badLen h 0 []))

/-- R224, R202: CMD 4 to 15 end NOT_SUPPORTED, before any check of size or transfer, and change nothing. -/
def Obligations.UnsupportedCommands : Prop :=
  ∀ (s : State) (h : Handle) (len : Half) (p : List Byte) (x : Bool), s.ready h →
    (∀ c, exec (.ctrlUnsupported4To7 h c len p x) s
      = .next ((s.received (.ctrlUnsupported4To7 h c len p x)).respond .notSupported h 0 []))
    ∧ (∀ c, exec (.ctrlUnsupported8To15 h c len p x) s
      = .next ((s.received (.ctrlUnsupported8To15 h c len p x)).respond .notSupported h 0 []))

/-! ### Failing outcomes and admission -/

/-- R222: XFER_ERR on a WRITE, an immediate READ, a CTRL that passed its checks, or the completion of a blocking READ ends
FAULT with COUNT 0, and changes no state (the completed waiter is gone, its cursor as it was). -/
def Obligations.TransferErrorsEndFault : Prop :=
  (∀ (s : State) (h : Handle) (len : Half) (p : List Byte), s.ready h →
    exec (.write h len p true) s = .next ((s.received (.write h len p true)).respond .fault h 0 [])
    ∧ exec (.setLatchDelay h 4 p true) s = .next ((s.received (.setLatchDelay h 4 p true)).respond .fault h 0 [])
    ∧ exec (.setClockDelay h 4 p true) s = .next ((s.received (.setClockDelay h 4 p true)).respond .fault h 0 [])
    ∧ exec (.setGamma h 512 p true) s = .next ((s.received (.setGamma h 512 p true)).respond .fault h 0 [])
    ∧ exec (.setBlank h 4 p true) s = .next ((s.received (.setBlank h 4 p true)).respond .fault h 0 []))
  ∧ (∀ (s : State) (h : Handle) (nb : Bool) (len : Half), s.ready h → (s.slot h).pos ≠ s.fbBytes →
      (nb = true ∨ (s.slot h).pos ≠ 0) →
      exec (.read h nb len true) s = .next ((s.received (.read h nb len true)).respond .fault h 0 []))
  ∧ (∀ (s : State) (h : Handle) (w : Waiter), (s.slot h).pend = some w → w.xferErr = true →
      completeWaiter h w s = (s.setSlot h { s.slot h with pend := none }).respond .fault h 0 [])

/-- R221: every transaction but OPEN whose handle is not bound ends BADHANDLE with that handle, and changes nothing; CANCEL
does so even while the port is held. -/
def Obligations.UnboundHandle : Prop :=
  ∀ (s : State) (i : Instr), i ≠ .openHandle → s.bound i.handle = false →
    (s.port = .idle ∨ i = .cancel i.handle) →
    exec i s = .next ((s.received i).respond .badHandle i.handle 0 [])

/-- R227: every transaction but OPEN and CANCEL on a handle with a pending READ ends BUSY and changes nothing, so the READ stays
pending. -/
def Obligations.HandleWithPendingRead : Prop :=
  ∀ (s : State) (i : Instr), i ≠ .openHandle → i ≠ .cancel i.handle → s.port = .idle →
    s.bound i.handle = true → s.waiting i.handle = true →
    exec i s = .next ((s.received i).respond .busy i.handle 0 [])

/-- R119: while the port is held, no request but CANCEL is admitted: it waits, and nothing happens (that a step is taken in
which nothing changes is the model's form of waiting, log 9). -/
def Obligations.RequestsAreHeldWithThePort : Prop :=
  ∀ (s : State) (r : Request), s.port ≠ .idle → isCancel r = false → runRequest r s = .next s

/-- R226, R100: a request that decodes as ILLEGAL is answered with STATUS ILLEGAL and its own HANDLE field, and changes
nothing; its payload is discarded. -/
def Obligations.IllegalRequestResponse : Prop :=
  ∀ (s : State) (r : Request) (e : DecodeError), s.port = .idle → decodeRequest r = .error e →
    runRequest r s = .next ((s.emit (.req r.header)).respond .illegal (headerHandle r.header) 0 [])

/-! ### Frames -/

/-- R42: which elements a transaction writes. The frame buffer, PORT and SER: only WRITE. GT, T_CLK, T_LAT, BLANK_FORCE and
the BLANK pin: only their own command. CNT, BLANK_SER, the other pins, the configuration and the inputs: none. -/
def Obligations.TransactionsWriteOnly : Prop :=
  ∀ (s t : State) (i : Instr), exec i s = .next t →
    t.cfg = s.cfg ∧ t.cnt = s.cnt ∧ t.blankSer = s.blankSer ∧ t.dout = s.dout ∧ t.clk = s.clk ∧ t.lat = s.lat
    ∧ t.clients = s.clients ∧ t.irq = s.irq ∧ t.sched = s.sched
    ∧ (i.row ≠ 2 → t.mem = s.mem ∧ t.port = s.port ∧ t.ser = s.ser)
    ∧ (i.row ≠ 4 → t.tLat = s.tLat)
    ∧ (i.row ≠ 5 → t.tClk = s.tClk)
    ∧ (i.row ≠ 6 → t.gt = s.gt)
    ∧ (i.row ≠ 7 → t.blankForce = s.blankForce ∧ t.blank = s.blank)

/-- R42, R120 to R128: the frame of the handle slots. OPEN changes one slot, which was not open. Every other transaction changes
at most the slot it names: CLOSE only open, WRITE only pos, READ only pos and pend, CANCEL only pend, CTRL nothing. -/
def Obligations.TransactionsKeepOtherHandles : Prop :=
  (∀ s t : State, exec .openHandle s = .next t →
    t.slots = s.slots ∨ ∃ h, (s.slot h).isOpen = false ∧ ∀ g, g ≠ h → t.slot g = s.slot g)
  ∧ (∀ (s t : State) (i : Instr), i ≠ .openHandle → exec i s = .next t → ∀ g, g ≠ i.handle → t.slot g = s.slot g)
  ∧ (∀ (s t : State) (h : Handle), exec (.close h) s = .next t →
      (t.slot h).pos = (s.slot h).pos ∧ (t.slot h).pend = (s.slot h).pend)
  ∧ (∀ (s t : State) (h : Handle) (len : Half) (p : List Byte) (x : Bool), exec (.write h len p x) s = .next t →
      (t.slot h).isOpen = (s.slot h).isOpen ∧ (t.slot h).pend = (s.slot h).pend)
  ∧ (∀ (s t : State) (h : Handle) (nb : Bool) (len : Half) (x : Bool), exec (.read h nb len x) s = .next t →
      (t.slot h).isOpen = (s.slot h).isOpen)
  ∧ (∀ (s t : State) (h : Handle), exec (.cancel h) s = .next t →
      (t.slot h).isOpen = (s.slot h).isOpen ∧ (t.slot h).pos = (s.slot h).pos)
  ∧ (∀ (s t : State) (i : Instr), 4 ≤ i.row → i.row ≤ 9 → exec i s = .next t → t.slots = s.slots)

/-- R34, R124: the memory frame of WRITE, in every form of it (admitted or held, refused by the prologue, XFER_ERR): every
address outside the n bytes from its start address reads as before. -/
def Obligations.WriteLeavesOtherBytes : Prop :=
  ∀ (s t : State) (h : Handle) (len : Half) (p : List Byte) (x : Bool), Memory.wf s.mem →
    exec (.write h len p x) s = .next t →
    ∀ b, ¬ (writeAddr s h ≤ b ∧ b < writeAddr s h + transferLen s len (writeAddr s h)) → t.mem.read b = s.mem.read b

/-- R23, R130: after a WRITE that is answered, the cursor is below FB_BYTES. -/
def Obligations.CursorBelowTheBoundAfterWrite : Prop :=
  ∀ (s t : State) (h : Handle) (len : Half) (p : List Byte),
    s.ready h → (s.slot h).pos ≤ s.fbBytes → exec (.write h len p false) s = .next t → t.port = .idle →
    (t.slot h).pos < s.fbBytes

/-- R40: an admitted transaction first appends its Req event, with its header. -/
def Obligations.TransactionsAreRecorded : Prop :=
  ∀ (s t : State) (i : Instr), (s.port = .idle ∨ i = .cancel i.handle) → exec i s = .next t →
    ∃ l, t.trace = s.trace ++ .req i.header :: l

/-! ### The frame-ready step -/

/-- R152, R153: the frame-ready step is enabled exactly when PORT = Held(h, n) and SER = Idle, and does what R153 lists: CNT is
incremented modulo 2^CNT_W, every waiter is completed in ascending handle order, the committing handle's cursor is 0, the
port is free, and the WRITE is answered with COUNT n; nothing else changes. -/
def Obligations.FrameReadyStep : Prop :=
  ∀ s : State,
    ((∃ t, frameReadyStep s = some t) ↔ ∃ h n, s.port = .held h n ∧ s.ser = .idle)
    ∧ ∀ (h : Handle) (n : Nat), s.port = .held h n → s.ser = .idle →
      ∃ t, frameReadyStep s = some t
        ∧ t.cnt = (s.cnt + 1) % 2 ^ s.cfg.cntW
        ∧ t.port = .idle
        ∧ (∀ g : Handle, g ≠ h → g.toNat < s.cfg.maxHandles → t.slot g = completedSlot s (s.slot g))
        ∧ (∀ g : Handle, g ≠ h → s.cfg.maxHandles ≤ g.toNat → t.slot g = s.slot g)
        ∧ t.slot h = { (if h.toNat < s.cfg.maxHandles then completedSlot s (s.slot h) else s.slot h) with pos := 0 }
        ∧ t.trace = s.trace ++ [.frameReady ((s.cnt + 1) % 2 ^ s.cfg.cntW)] ++ waiterEvents s ++ [.resp (responseWord .ok h n) []]
        ∧ { t with cnt := s.cnt, port := s.port, slots := s.slots, trace := s.trace } = s

/-- R154: one frame-ready step releases every waiter. -/
def Obligations.ReleaseIsBroadcast : Prop :=
  ∀ s t : State, s.Inv → frameReadyStep s = some t → ∀ h, t.waiting h = false

/-- R127: a waiter gets the first min(max_len, FB_BYTES) bytes of the frame just committed, its cursor stands after them, and
the response is in the trace. -/
def Obligations.WaitersGetTheCommittedFrame : Prop :=
  ∀ (s t : State) (h : Handle) (w : Waiter), s.Inv → frameReadyStep s = some t →
    (s.slot h).pend = some w → w.xferErr = false →
    t.slot h = { isOpen := true, pos := min w.maxLen.toNat s.fbBytes, pend := none }
    ∧ .resp (responseWord .ok h (min w.maxLen.toNat s.fbBytes)) (s.mem.readBytes 0 (min w.maxLen.toNat s.fbBytes)) ∈ t.trace
    ∧ t.mem = s.mem

/-- R155: when a waiter is released, CNT differs from the value it observed, also when CNT wraps. -/
def Obligations.ReleasedWaiterSeesANewCount : Prop :=
  ∀ (s t : State) (h : Handle) (w : Waiter), s.Inv → frameReadyStep s = some t → (s.slot h).pend = some w →
    t.cnt = (w.v + 1) % 2 ^ s.cfg.cntW ∧ t.cnt ≠ w.v

/-! ### The machine -/

/-- A step runs the decoded transaction: when client k is next, presents a framed request that decodes to i and can be
admitted, the step is exec of i at the state with the choice and the request taken; then the client waits if its
transaction has no response yet, and every client learns of its response, by which nothing but the clients changes. Client k
has then used up the request, and waits exactly when its transaction has started without a response. In every step from a
state of the invariant, a client that waits presents nothing (R10); it goes on waiting, with its script as it was, while its
transaction is outstanding; and when that ends, a response for its handle has been recorded. The choice of the agent and the
clients' scripts are the model's inputs (logs 3 and 4). -/
def Obligations.StepRunsTheTransaction : Prop :=
  (∀ (s : State) (k : Nat) (c : Client) (r : Request) (i : Instr),
    s.cfg.wf = true → nextChoice s = some (.client k) → s.clients[k]? = some c → c.presents = some r →
    admissible s r = true → r.framed = true → decodeRequest r = .ok i →
    step s = mapNext (fun t => settle (noteWait k i.handle s t)) (exec i (State.takeRequest { s with sched := s.sched.tail } k))
    ∧ ∀ t, step s = .next t →
        t.clients[k]? = some ⟨c.script.tail,
          if t.outstanding i.handle = true ∧ s.outstanding i.handle = false then some i.handle else none⟩)
  ∧ (∀ (s t : State) (k : Nat) (h : Handle),
      settle (noteWait k h s t) = { t with clients := (settle (noteWait k h s t)).clients })
  ∧ (∀ (s t : State) (j : Nat) (c : Client) (h : Handle),
      s.Inv → s.clients[j]? = some c → c.waits = some h → step s = .next t →
      c.presents = none
      ∧ t.clients[j]? = some { c with waits := if t.outstanding h = true then some h else none }
      ∧ (t.outstanding h = false →
          ∃ l st n d, t.trace = s.trace ++ l ∧ .resp (responseWord st h n) d ∈ l))

/-- R119, R9, R10, R153, R180, R189: what else a chosen agent can do: an ILLEGAL request is answered; a request that is not
admissible waits, and only the choice is used up (log 3); the interrupt source's CANCEL is run at any step (log 5); the serializer takes its next
pin step (R180), and the port takes the frame-ready step (R153), whenever they are chosen and have one. -/
def Obligations.StepOfOtherChoices : Prop :=
  (∀ (s : State) (k : Nat) (c : Client) (r : Request) (e : DecodeError),
    s.cfg.wf = true → nextChoice s = some (.client k) → s.clients[k]? = some c → c.presents = some r →
    s.port = .idle → r.framed = true → decodeRequest r = .error e →
    step s = .next (settle (((State.takeRequest { s with sched := s.sched.tail } k).emit (.req r.header)).respond .illegal
      (headerHandle r.header) 0 [])))
  ∧ (∀ (s : State) (k : Nat) (c : Client) (r : Request),
      s.cfg.wf = true → nextChoice s = some (.client k) → s.clients[k]? = some c → c.presents = some r →
      admissible s r = false →
      step s = .next (settle { s with sched := s.sched.tail }))
  ∧ (∀ (s : State) (h : Handle) (rest : List Handle),
      s.cfg.wf = true → nextChoice s = some .interrupt → s.irq = h :: rest →
      step s = mapNext settle (exec (.cancel h) { s with sched := s.sched.tail, irq := rest }))
  ∧ (∀ s t : State,
      s.cfg.wf = true → nextChoice s = some .serializer → serializerStep { s with sched := s.sched.tail } = some t →
      step s = .next (settle t))
  ∧ (∀ s t : State,
      s.cfg.wf = true → nextChoice s = some .frameReady → frameReadyStep { s with sched := s.sched.tail } = some t →
      step s = .next (settle t))

/-- R12, R20 to R40: every step keeps the invariant. Its clause on the clients is about the model's own input (log 4). -/
def Obligations.StepKeepsInvariant : Prop :=
  ∀ s t : State, s.Inv → step s = .next t → t.Inv

/-- R188, R220: no state that satisfies the invariant stops with a fault (log 10), and the only thing refused there is an input
that is no request (log 6). -/
def Obligations.NoFaultUnderTheInvariant : Prop :=
  ∀ s : State, s.Inv → (∀ f, step s ≠ .fault f) ∧ (∀ r, step s = .refused r → r = .unframedRequest)

/-- R189, R78, R72: whatever agent steps during an emission, the frame, the gamma table, the delays, the blank force, the
configuration and the port stay as they are, and SER stays or goes on to the next step of the emission, or to Idle from the
last. -/
def Obligations.EmissionIsNotDisturbed : Prop :=
  ∀ (s t : State) (k : Nat), s.Inv → s.ser = .run k → step s = .next t →
    t.mem = s.mem ∧ t.gt = s.gt ∧ t.tClk = s.tClk ∧ t.tLat = s.tLat ∧ t.blankForce = s.blankForce ∧ t.cfg = s.cfg
    ∧ t.port = s.port ∧ t.cnt = s.cnt
    ∧ (t.ser = .run k ∨ t.ser = if k + 1 = s.cfg.emissionSteps then .idle else .run (k + 1))

/-- R152, R157: CNT counts the FrameReady events of the trace modulo 2^CNT_W, and every step keeps it so. -/
def Obligations.CounterCountsFrames : Prop :=
  (∀ c : Config, (State.resetWith c).cnt = frames (State.resetWith c).trace % 2 ^ c.cntW)
  ∧ ∀ s t : State, s.cnt = frames s.trace % 2 ^ s.cfg.cntW → step s = .next t → t.cnt = frames t.trace % 2 ^ t.cfg.cntW

/-- R11, R40: no step changes the configuration, and the trace only grows. -/
def Obligations.ConfigurationAndHistoryAreKept : Prop :=
  ∀ s t : State, step s = .next t → t.cfg = s.cfg ∧ s.trace <+: t.trace

/-- R271: a quiescent state with no choice made for it stays as it is, in the model's form of waiting (logs 3 and 8). -/
def Obligations.QuiescentStateRests : Prop :=
  ∀ s : State, s.cfg.wf = true → s.sched = [] → (s.quiescent ↔ nextChoice s = none) ∧ (s.quiescent → step s = .next s)

/-- R106, for the responses ws that have come. WRITEFRAME h, F issues only WRITEs on h of at most 65535 bytes; with full COUNTs
they are the pieces F[jk .. (j+1)k-1] with k = min(FB_BYTES, 65535); the bytes consumed are always the first bytes of F, and
all of F once every WRITE issued has been answered. READFRAME h issues blocking READs of k bytes on h (that the further READs
have this length is the model's choice, log 23), another one exactly while fewer than FB_BYTES bytes have arrived. BLANK,
UNBLANK and GAMMA.LINEAR are SET_BLANK on h with 1 and 0 and SET_GAMMA on h with the default gamma table. -/
def Obligations.PseudoInstructions : Prop :=
  (∀ (c : Config) (h : Handle) (f : List Byte) (ws : List Word), c.wf = true →
    (∀ i ∈ writeFrame c h f ws, ∃ p, i = .write h (BitVec.ofNat 16 p.length) p false ∧ p.length ≤ 65535 ∧ i.wf = true)
    ∧ (((writeFrame c h f ws).zip ws).flatMap (fun iw => iw.1.payload.take (respCount iw.2)) <+: f)
    ∧ ((writeFrame c h f ws).length ≤ ws.length →
        ((writeFrame c h f ws).zip ws).flatMap (fun iw => iw.1.payload.take (respCount iw.2)) = f))
  ∧ (∀ (c : Config) (h : Handle) (f : List Byte) (ws : List Word) (j : Nat), c.wf = true → j ≤ ws.length →
      j * min c.fbBytes 65535 < f.length → (∀ w ∈ ws.take j, respCount w = min c.fbBytes 65535) →
      ((writeFrame c h f ws)[j]?).map Instr.payload
        = some ((f.drop (j * min c.fbBytes 65535)).take (min c.fbBytes 65535)))
  ∧ (∀ (c : Config) (h : Handle) (ws : List Word) (n : Nat),
      (readFrame c h ws)[n]?
        = if n ≤ ws.length ∧ ((ws.take n).map respCount).sum < c.fbBytes then
            some (.read h false (BitVec.ofNat 16 (min c.fbBytes 65535)) false)
          else none)
  ∧ (∀ h : Handle, Machine.blank h = .setBlank h 4 [1, 0, 0, 0] false ∧ unblank h = .setBlank h 4 [0, 0, 0, 0] false)
  ∧ (∀ (c : Config) (h : Handle), ∃ p, gammaLinear c h = .setGamma h 512 p false ∧ p.length = 512
      ∧ gammaOf p = defaultGamma c.gammaBits)
end

