-- ==== Sys2Proof/Laws/Decode.lean ====
section
/-! SUPPORT. The fields of a header that was made of fields, a header made of its fields, and a word and its bytes. -/

namespace Sys2Proof

section
variable (op : BitVec 4) (h : Handle) (nb : Bool) (cmd : BitVec 4) (len : Half)

@[simp] theorem headerOp_mkHeader : headerOp (mkHeader op h nb cmd len) = op := by
  ext i hi
  unfold headerOp mkHeader
  simp only [BitVec.getElem_extractLsb', BitVec.getLsbD_append]
  interval_cases i <;> simp

@[simp] theorem headerHandle_mkHeader : headerHandle (mkHeader op h nb cmd len) = h := by
  ext i hi
  unfold headerHandle mkHeader
  simp only [BitVec.getElem_extractLsb', BitVec.getLsbD_append]
  interval_cases i <;> simp

@[simp] theorem headerNb_mkHeader : headerNb (mkHeader op h nb cmd len) = nb := by
  unfold headerNb mkHeader
  simp only [BitVec.getLsbD_append]
  simp

@[simp] theorem headerRsvd_mkHeader : headerRsvd (mkHeader op h nb cmd len) = 0 := by
  ext i hi
  unfold headerRsvd mkHeader
  simp only [BitVec.getElem_extractLsb', BitVec.getLsbD_append]
  interval_cases i <;> simp

@[simp] theorem headerCmd_mkHeader : headerCmd (mkHeader op h nb cmd len) = cmd := by
  ext i hi
  unfold headerCmd mkHeader
  simp only [BitVec.getElem_extractLsb', BitVec.getLsbD_append]
  interval_cases i <;> simp

@[simp] theorem headerLen_mkHeader : headerLen (mkHeader op h nb cmd len) = len := by
  ext i hi
  unfold headerLen mkHeader
  simp only [BitVec.getElem_extractLsb', BitVec.getLsbD_append]
  interval_cases i <;> simp

end

/-- A header whose RSVD field is 0 is made of its other fields (R91). -/
theorem mkHeader_fields (w : Word) (hr : headerRsvd w = 0) :
    mkHeader (headerOp w) (headerHandle w) (headerNb w) (headerCmd w) (headerLen w) = w := by
  have h0 := congrArg (fun x => x.getLsbD 0) hr
  have h1 := congrArg (fun x => x.getLsbD 1) hr
  have h2 := congrArg (fun x => x.getLsbD 2) hr
  simp [headerRsvd] at h0 h1 h2
  ext i hi
  unfold mkHeader headerOp headerHandle headerNb headerCmd headerLen
  simp only [← BitVec.getLsbD_eq_getElem, BitVec.getLsbD_append, BitVec.getLsbD_extractLsb']
  interval_cases i <;> simp_all

/-- A word is its four bytes, the least significant first (R61). -/
theorem bytes_word (w : Word) :
    (w.extractLsb' 24 8 ++ w.extractLsb' 16 8 ++ w.extractLsb' 8 8 ++ w.extractLsb' 0 8 : BitVec (8 + 8 + 8 + 8)) = w := by
  ext i hi
  simp only [← BitVec.getLsbD_eq_getElem, BitVec.getLsbD_append, BitVec.getLsbD_extractLsb']
  interval_cases i <;> simp

/-- Framing gives back a framed request and the bytes after it (R104). -/
theorem frame_bytes (r : Request) (hf : r.framed = true) (rest : List Byte) :
    frame r.xferErr (r.bytes ++ rest) = .ok (r, rest) := by
  have hl : r.payload.length = plen r.header := by simpa [Request.framed] using hf
  simp only [Request.bytes, wordBytes, List.cons_append, List.nil_append, frame]
  rw [bytes_word r.header]
  rw [if_pos (by simp [hl]), ← hl]
  simp

/-- Framing gives back a response whose data bytes are as many as its word says, and the bytes after it (R104). -/
theorem frameResponse_respBytes {request w : Word} {data : List Byte} (hl : data.length = respDataLen request w)
    (rest : List Byte) : frameResponse request (respBytes w data ++ rest) = some ((w, data), rest) := by
  simp only [respBytes, wordBytes, List.cons_append, List.nil_append, frameResponse]
  rw [bytes_word w]
  rw [if_pos (by simp [hl]), ← hl]
  simp

end Sys2Proof
end

