-- ==== Sys2Proof/Laws/State.lean ====
section
/-! SUPPORT. One lemma per field per update of the state, each true by unfolding the update, so that no proof unfolds a
record update. Then what the updates do to the accessors of Machine/Flags.lean. -/

namespace Sys2Proof.Machine

variable (s : State)

/-! ### setSlot -/

@[simp] theorem State.setSlot_cfg (h : Handle) (v : Slot) : (s.setSlot h v).cfg = s.cfg := rfl
@[simp] theorem State.setSlot_slots (h : Handle) (v : Slot) : (s.setSlot h v).slots = s.slots.set h.toNat v h.isLt := rfl
@[simp] theorem State.setSlot_mem (h : Handle) (v : Slot) : (s.setSlot h v).mem = s.mem := rfl
@[simp] theorem State.setSlot_cnt (h : Handle) (v : Slot) : (s.setSlot h v).cnt = s.cnt := rfl
@[simp] theorem State.setSlot_gt (h : Handle) (v : Slot) : (s.setSlot h v).gt = s.gt := rfl
@[simp] theorem State.setSlot_tClk (h : Handle) (v : Slot) : (s.setSlot h v).tClk = s.tClk := rfl
@[simp] theorem State.setSlot_tLat (h : Handle) (v : Slot) : (s.setSlot h v).tLat = s.tLat := rfl
@[simp] theorem State.setSlot_blankForce (h : Handle) (v : Slot) : (s.setSlot h v).blankForce = s.blankForce := rfl
@[simp] theorem State.setSlot_blankSer (h : Handle) (v : Slot) : (s.setSlot h v).blankSer = s.blankSer := rfl
@[simp] theorem State.setSlot_port (h : Handle) (v : Slot) : (s.setSlot h v).port = s.port := rfl
@[simp] theorem State.setSlot_ser (h : Handle) (v : Slot) : (s.setSlot h v).ser = s.ser := rfl
@[simp] theorem State.setSlot_dout (h : Handle) (v : Slot) : (s.setSlot h v).dout = s.dout := rfl
@[simp] theorem State.setSlot_clk (h : Handle) (v : Slot) : (s.setSlot h v).clk = s.clk := rfl
@[simp] theorem State.setSlot_lat (h : Handle) (v : Slot) : (s.setSlot h v).lat = s.lat := rfl
@[simp] theorem State.setSlot_blank (h : Handle) (v : Slot) : (s.setSlot h v).blank = s.blank := rfl
@[simp] theorem State.setSlot_trace (h : Handle) (v : Slot) : (s.setSlot h v).trace = s.trace := rfl
@[simp] theorem State.setSlot_clients (h : Handle) (v : Slot) : (s.setSlot h v).clients = s.clients := rfl
@[simp] theorem State.setSlot_irq (h : Handle) (v : Slot) : (s.setSlot h v).irq = s.irq := rfl
@[simp] theorem State.setSlot_sched (h : Handle) (v : Slot) : (s.setSlot h v).sched = s.sched := rfl

/-! ### setOpen -/

@[simp] theorem State.setOpen_cfg (h : Handle) (b : Bool) : (s.setOpen h b).cfg = s.cfg := rfl
@[simp] theorem State.setOpen_mem (h : Handle) (b : Bool) : (s.setOpen h b).mem = s.mem := rfl
@[simp] theorem State.setOpen_cnt (h : Handle) (b : Bool) : (s.setOpen h b).cnt = s.cnt := rfl
@[simp] theorem State.setOpen_gt (h : Handle) (b : Bool) : (s.setOpen h b).gt = s.gt := rfl
@[simp] theorem State.setOpen_tClk (h : Handle) (b : Bool) : (s.setOpen h b).tClk = s.tClk := rfl
@[simp] theorem State.setOpen_tLat (h : Handle) (b : Bool) : (s.setOpen h b).tLat = s.tLat := rfl
@[simp] theorem State.setOpen_blankForce (h : Handle) (b : Bool) : (s.setOpen h b).blankForce = s.blankForce := rfl
@[simp] theorem State.setOpen_blankSer (h : Handle) (b : Bool) : (s.setOpen h b).blankSer = s.blankSer := rfl
@[simp] theorem State.setOpen_port (h : Handle) (b : Bool) : (s.setOpen h b).port = s.port := rfl
@[simp] theorem State.setOpen_ser (h : Handle) (b : Bool) : (s.setOpen h b).ser = s.ser := rfl
@[simp] theorem State.setOpen_dout (h : Handle) (b : Bool) : (s.setOpen h b).dout = s.dout := rfl
@[simp] theorem State.setOpen_clk (h : Handle) (b : Bool) : (s.setOpen h b).clk = s.clk := rfl
@[simp] theorem State.setOpen_lat (h : Handle) (b : Bool) : (s.setOpen h b).lat = s.lat := rfl
@[simp] theorem State.setOpen_blank (h : Handle) (b : Bool) : (s.setOpen h b).blank = s.blank := rfl
@[simp] theorem State.setOpen_trace (h : Handle) (b : Bool) : (s.setOpen h b).trace = s.trace := rfl
@[simp] theorem State.setOpen_clients (h : Handle) (b : Bool) : (s.setOpen h b).clients = s.clients := rfl
@[simp] theorem State.setOpen_irq (h : Handle) (b : Bool) : (s.setOpen h b).irq = s.irq := rfl
@[simp] theorem State.setOpen_sched (h : Handle) (b : Bool) : (s.setOpen h b).sched = s.sched := rfl

/-! ### setPos -/

@[simp] theorem State.setPos_cfg (h : Handle) (a : Nat) : (s.setPos h a).cfg = s.cfg := rfl
@[simp] theorem State.setPos_mem (h : Handle) (a : Nat) : (s.setPos h a).mem = s.mem := rfl
@[simp] theorem State.setPos_cnt (h : Handle) (a : Nat) : (s.setPos h a).cnt = s.cnt := rfl
@[simp] theorem State.setPos_gt (h : Handle) (a : Nat) : (s.setPos h a).gt = s.gt := rfl
@[simp] theorem State.setPos_tClk (h : Handle) (a : Nat) : (s.setPos h a).tClk = s.tClk := rfl
@[simp] theorem State.setPos_tLat (h : Handle) (a : Nat) : (s.setPos h a).tLat = s.tLat := rfl
@[simp] theorem State.setPos_blankForce (h : Handle) (a : Nat) : (s.setPos h a).blankForce = s.blankForce := rfl
@[simp] theorem State.setPos_blankSer (h : Handle) (a : Nat) : (s.setPos h a).blankSer = s.blankSer := rfl
@[simp] theorem State.setPos_port (h : Handle) (a : Nat) : (s.setPos h a).port = s.port := rfl
@[simp] theorem State.setPos_ser (h : Handle) (a : Nat) : (s.setPos h a).ser = s.ser := rfl
@[simp] theorem State.setPos_dout (h : Handle) (a : Nat) : (s.setPos h a).dout = s.dout := rfl
@[simp] theorem State.setPos_clk (h : Handle) (a : Nat) : (s.setPos h a).clk = s.clk := rfl
@[simp] theorem State.setPos_lat (h : Handle) (a : Nat) : (s.setPos h a).lat = s.lat := rfl
@[simp] theorem State.setPos_blank (h : Handle) (a : Nat) : (s.setPos h a).blank = s.blank := rfl
@[simp] theorem State.setPos_trace (h : Handle) (a : Nat) : (s.setPos h a).trace = s.trace := rfl
@[simp] theorem State.setPos_clients (h : Handle) (a : Nat) : (s.setPos h a).clients = s.clients := rfl
@[simp] theorem State.setPos_irq (h : Handle) (a : Nat) : (s.setPos h a).irq = s.irq := rfl
@[simp] theorem State.setPos_sched (h : Handle) (a : Nat) : (s.setPos h a).sched = s.sched := rfl

/-! ### setPend -/

@[simp] theorem State.setPend_cfg (h : Handle) (w : Option Waiter) : (s.setPend h w).cfg = s.cfg := rfl
@[simp] theorem State.setPend_mem (h : Handle) (w : Option Waiter) : (s.setPend h w).mem = s.mem := rfl
@[simp] theorem State.setPend_cnt (h : Handle) (w : Option Waiter) : (s.setPend h w).cnt = s.cnt := rfl
@[simp] theorem State.setPend_gt (h : Handle) (w : Option Waiter) : (s.setPend h w).gt = s.gt := rfl
@[simp] theorem State.setPend_tClk (h : Handle) (w : Option Waiter) : (s.setPend h w).tClk = s.tClk := rfl
@[simp] theorem State.setPend_tLat (h : Handle) (w : Option Waiter) : (s.setPend h w).tLat = s.tLat := rfl
@[simp] theorem State.setPend_blankForce (h : Handle) (w : Option Waiter) : (s.setPend h w).blankForce = s.blankForce := rfl
@[simp] theorem State.setPend_blankSer (h : Handle) (w : Option Waiter) : (s.setPend h w).blankSer = s.blankSer := rfl
@[simp] theorem State.setPend_port (h : Handle) (w : Option Waiter) : (s.setPend h w).port = s.port := rfl
@[simp] theorem State.setPend_ser (h : Handle) (w : Option Waiter) : (s.setPend h w).ser = s.ser := rfl
@[simp] theorem State.setPend_dout (h : Handle) (w : Option Waiter) : (s.setPend h w).dout = s.dout := rfl
@[simp] theorem State.setPend_clk (h : Handle) (w : Option Waiter) : (s.setPend h w).clk = s.clk := rfl
@[simp] theorem State.setPend_lat (h : Handle) (w : Option Waiter) : (s.setPend h w).lat = s.lat := rfl
@[simp] theorem State.setPend_blank (h : Handle) (w : Option Waiter) : (s.setPend h w).blank = s.blank := rfl
@[simp] theorem State.setPend_trace (h : Handle) (w : Option Waiter) : (s.setPend h w).trace = s.trace := rfl
@[simp] theorem State.setPend_clients (h : Handle) (w : Option Waiter) : (s.setPend h w).clients = s.clients := rfl
@[simp] theorem State.setPend_irq (h : Handle) (w : Option Waiter) : (s.setPend h w).irq = s.irq := rfl
@[simp] theorem State.setPend_sched (h : Handle) (w : Option Waiter) : (s.setPend h w).sched = s.sched := rfl

/-! ### emit -/

@[simp] theorem State.emit_cfg (e : Event) : (s.emit e).cfg = s.cfg := rfl
@[simp] theorem State.emit_slots (e : Event) : (s.emit e).slots = s.slots := rfl
@[simp] theorem State.emit_mem (e : Event) : (s.emit e).mem = s.mem := rfl
@[simp] theorem State.emit_cnt (e : Event) : (s.emit e).cnt = s.cnt := rfl
@[simp] theorem State.emit_gt (e : Event) : (s.emit e).gt = s.gt := rfl
@[simp] theorem State.emit_tClk (e : Event) : (s.emit e).tClk = s.tClk := rfl
@[simp] theorem State.emit_tLat (e : Event) : (s.emit e).tLat = s.tLat := rfl
@[simp] theorem State.emit_blankForce (e : Event) : (s.emit e).blankForce = s.blankForce := rfl
@[simp] theorem State.emit_blankSer (e : Event) : (s.emit e).blankSer = s.blankSer := rfl
@[simp] theorem State.emit_port (e : Event) : (s.emit e).port = s.port := rfl
@[simp] theorem State.emit_ser (e : Event) : (s.emit e).ser = s.ser := rfl
@[simp] theorem State.emit_dout (e : Event) : (s.emit e).dout = s.dout := rfl
@[simp] theorem State.emit_clk (e : Event) : (s.emit e).clk = s.clk := rfl
@[simp] theorem State.emit_lat (e : Event) : (s.emit e).lat = s.lat := rfl
@[simp] theorem State.emit_blank (e : Event) : (s.emit e).blank = s.blank := rfl
@[simp] theorem State.emit_trace (e : Event) : (s.emit e).trace = s.trace ++ [e] := rfl
@[simp] theorem State.emit_clients (e : Event) : (s.emit e).clients = s.clients := rfl
@[simp] theorem State.emit_irq (e : Event) : (s.emit e).irq = s.irq := rfl
@[simp] theorem State.emit_sched (e : Event) : (s.emit e).sched = s.sched := rfl

/-! ### wait -/

@[simp] theorem State.wait_cfg (t : Word) : (s.wait t).cfg = s.cfg := rfl
@[simp] theorem State.wait_slots (t : Word) : (s.wait t).slots = s.slots := rfl
@[simp] theorem State.wait_mem (t : Word) : (s.wait t).mem = s.mem := rfl
@[simp] theorem State.wait_cnt (t : Word) : (s.wait t).cnt = s.cnt := rfl
@[simp] theorem State.wait_gt (t : Word) : (s.wait t).gt = s.gt := rfl
@[simp] theorem State.wait_tClk (t : Word) : (s.wait t).tClk = s.tClk := rfl
@[simp] theorem State.wait_tLat (t : Word) : (s.wait t).tLat = s.tLat := rfl
@[simp] theorem State.wait_blankForce (t : Word) : (s.wait t).blankForce = s.blankForce := rfl
@[simp] theorem State.wait_blankSer (t : Word) : (s.wait t).blankSer = s.blankSer := rfl
@[simp] theorem State.wait_port (t : Word) : (s.wait t).port = s.port := rfl
@[simp] theorem State.wait_ser (t : Word) : (s.wait t).ser = s.ser := rfl
@[simp] theorem State.wait_dout (t : Word) : (s.wait t).dout = s.dout := rfl
@[simp] theorem State.wait_clk (t : Word) : (s.wait t).clk = s.clk := rfl
@[simp] theorem State.wait_lat (t : Word) : (s.wait t).lat = s.lat := rfl
@[simp] theorem State.wait_blank (t : Word) : (s.wait t).blank = s.blank := rfl
@[simp] theorem State.wait_trace (t : Word) : (s.wait t).trace = s.trace ++ [.delay t] := rfl
@[simp] theorem State.wait_clients (t : Word) : (s.wait t).clients = s.clients := rfl
@[simp] theorem State.wait_irq (t : Word) : (s.wait t).irq = s.irq := rfl
@[simp] theorem State.wait_sched (t : Word) : (s.wait t).sched = s.sched := rfl

/-! ### respond -/

@[simp] theorem State.respond_cfg (st : Status) (h : Handle) (n : Nat) (d : List Byte) : (s.respond st h n d).cfg = s.cfg := rfl
@[simp] theorem State.respond_slots (st : Status) (h : Handle) (n : Nat) (d : List Byte) : (s.respond st h n d).slots = s.slots := rfl
@[simp] theorem State.respond_mem (st : Status) (h : Handle) (n : Nat) (d : List Byte) : (s.respond st h n d).mem = s.mem := rfl
@[simp] theorem State.respond_cnt (st : Status) (h : Handle) (n : Nat) (d : List Byte) : (s.respond st h n d).cnt = s.cnt := rfl
@[simp] theorem State.respond_gt (st : Status) (h : Handle) (n : Nat) (d : List Byte) : (s.respond st h n d).gt = s.gt := rfl
@[simp] theorem State.respond_tClk (st : Status) (h : Handle) (n : Nat) (d : List Byte) : (s.respond st h n d).tClk = s.tClk := rfl
@[simp] theorem State.respond_tLat (st : Status) (h : Handle) (n : Nat) (d : List Byte) : (s.respond st h n d).tLat = s.tLat := rfl
@[simp] theorem State.respond_blankForce (st : Status) (h : Handle) (n : Nat) (d : List Byte) : (s.respond st h n d).blankForce = s.blankForce := rfl
@[simp] theorem State.respond_blankSer (st : Status) (h : Handle) (n : Nat) (d : List Byte) : (s.respond st h n d).blankSer = s.blankSer := rfl
@[simp] theorem State.respond_port (st : Status) (h : Handle) (n : Nat) (d : List Byte) : (s.respond st h n d).port = s.port := rfl
@[simp] theorem State.respond_ser (st : Status) (h : Handle) (n : Nat) (d : List Byte) : (s.respond st h n d).ser = s.ser := rfl
@[simp] theorem State.respond_dout (st : Status) (h : Handle) (n : Nat) (d : List Byte) : (s.respond st h n d).dout = s.dout := rfl
@[simp] theorem State.respond_clk (st : Status) (h : Handle) (n : Nat) (d : List Byte) : (s.respond st h n d).clk = s.clk := rfl
@[simp] theorem State.respond_lat (st : Status) (h : Handle) (n : Nat) (d : List Byte) : (s.respond st h n d).lat = s.lat := rfl
@[simp] theorem State.respond_blank (st : Status) (h : Handle) (n : Nat) (d : List Byte) : (s.respond st h n d).blank = s.blank := rfl
@[simp] theorem State.respond_trace (st : Status) (h : Handle) (n : Nat) (d : List Byte) : (s.respond st h n d).trace = s.trace ++ [.resp (responseWord st h n) d] := rfl
@[simp] theorem State.respond_clients (st : Status) (h : Handle) (n : Nat) (d : List Byte) : (s.respond st h n d).clients = s.clients := rfl
@[simp] theorem State.respond_irq (st : Status) (h : Handle) (n : Nat) (d : List Byte) : (s.respond st h n d).irq = s.irq := rfl
@[simp] theorem State.respond_sched (st : Status) (h : Handle) (n : Nat) (d : List Byte) : (s.respond st h n d).sched = s.sched := rfl

/-! ### raise -/

@[simp] theorem State.raise_cfg (st : Status) (h : Handle) : (s.raise st h).cfg = s.cfg := rfl
@[simp] theorem State.raise_slots (st : Status) (h : Handle) : (s.raise st h).slots = s.slots := rfl
@[simp] theorem State.raise_mem (st : Status) (h : Handle) : (s.raise st h).mem = s.mem := rfl
@[simp] theorem State.raise_cnt (st : Status) (h : Handle) : (s.raise st h).cnt = s.cnt := rfl
@[simp] theorem State.raise_gt (st : Status) (h : Handle) : (s.raise st h).gt = s.gt := rfl
@[simp] theorem State.raise_tClk (st : Status) (h : Handle) : (s.raise st h).tClk = s.tClk := rfl
@[simp] theorem State.raise_tLat (st : Status) (h : Handle) : (s.raise st h).tLat = s.tLat := rfl
@[simp] theorem State.raise_blankForce (st : Status) (h : Handle) : (s.raise st h).blankForce = s.blankForce := rfl
@[simp] theorem State.raise_blankSer (st : Status) (h : Handle) : (s.raise st h).blankSer = s.blankSer := rfl
@[simp] theorem State.raise_port (st : Status) (h : Handle) : (s.raise st h).port = s.port := rfl
@[simp] theorem State.raise_ser (st : Status) (h : Handle) : (s.raise st h).ser = s.ser := rfl
@[simp] theorem State.raise_dout (st : Status) (h : Handle) : (s.raise st h).dout = s.dout := rfl
@[simp] theorem State.raise_clk (st : Status) (h : Handle) : (s.raise st h).clk = s.clk := rfl
@[simp] theorem State.raise_lat (st : Status) (h : Handle) : (s.raise st h).lat = s.lat := rfl
@[simp] theorem State.raise_blank (st : Status) (h : Handle) : (s.raise st h).blank = s.blank := rfl
@[simp] theorem State.raise_trace (st : Status) (h : Handle) : (s.raise st h).trace = s.trace ++ [.resp (responseWord st h 0) []] := rfl
@[simp] theorem State.raise_clients (st : Status) (h : Handle) : (s.raise st h).clients = s.clients := rfl
@[simp] theorem State.raise_irq (st : Status) (h : Handle) : (s.raise st h).irq = s.irq := rfl
@[simp] theorem State.raise_sched (st : Status) (h : Handle) : (s.raise st h).sched = s.sched := rfl

/-! ### received -/

@[simp] theorem State.received_cfg (i : Instr) : (s.received i).cfg = s.cfg := rfl
@[simp] theorem State.received_slots (i : Instr) : (s.received i).slots = s.slots := rfl
@[simp] theorem State.received_mem (i : Instr) : (s.received i).mem = s.mem := rfl
@[simp] theorem State.received_cnt (i : Instr) : (s.received i).cnt = s.cnt := rfl
@[simp] theorem State.received_gt (i : Instr) : (s.received i).gt = s.gt := rfl
@[simp] theorem State.received_tClk (i : Instr) : (s.received i).tClk = s.tClk := rfl
@[simp] theorem State.received_tLat (i : Instr) : (s.received i).tLat = s.tLat := rfl
@[simp] theorem State.received_blankForce (i : Instr) : (s.received i).blankForce = s.blankForce := rfl
@[simp] theorem State.received_blankSer (i : Instr) : (s.received i).blankSer = s.blankSer := rfl
@[simp] theorem State.received_port (i : Instr) : (s.received i).port = s.port := rfl
@[simp] theorem State.received_ser (i : Instr) : (s.received i).ser = s.ser := rfl
@[simp] theorem State.received_dout (i : Instr) : (s.received i).dout = s.dout := rfl
@[simp] theorem State.received_clk (i : Instr) : (s.received i).clk = s.clk := rfl
@[simp] theorem State.received_lat (i : Instr) : (s.received i).lat = s.lat := rfl
@[simp] theorem State.received_blank (i : Instr) : (s.received i).blank = s.blank := rfl
@[simp] theorem State.received_trace (i : Instr) : (s.received i).trace = s.trace ++ [.req i.header] := rfl
@[simp] theorem State.received_clients (i : Instr) : (s.received i).clients = s.clients := rfl
@[simp] theorem State.received_irq (i : Instr) : (s.received i).irq = s.irq := rfl
@[simp] theorem State.received_sched (i : Instr) : (s.received i).sched = s.sched := rfl

/-! ### driveBlank -/

@[simp] theorem State.driveBlank_cfg : (s.driveBlank).cfg = s.cfg := rfl
@[simp] theorem State.driveBlank_slots : (s.driveBlank).slots = s.slots := rfl
@[simp] theorem State.driveBlank_mem : (s.driveBlank).mem = s.mem := rfl
@[simp] theorem State.driveBlank_cnt : (s.driveBlank).cnt = s.cnt := rfl
@[simp] theorem State.driveBlank_gt : (s.driveBlank).gt = s.gt := rfl
@[simp] theorem State.driveBlank_tClk : (s.driveBlank).tClk = s.tClk := rfl
@[simp] theorem State.driveBlank_tLat : (s.driveBlank).tLat = s.tLat := rfl
@[simp] theorem State.driveBlank_blankForce : (s.driveBlank).blankForce = s.blankForce := rfl
@[simp] theorem State.driveBlank_blankSer : (s.driveBlank).blankSer = s.blankSer := rfl
@[simp] theorem State.driveBlank_port : (s.driveBlank).port = s.port := rfl
@[simp] theorem State.driveBlank_ser : (s.driveBlank).ser = s.ser := rfl
@[simp] theorem State.driveBlank_dout : (s.driveBlank).dout = s.dout := rfl
@[simp] theorem State.driveBlank_clk : (s.driveBlank).clk = s.clk := rfl
@[simp] theorem State.driveBlank_lat : (s.driveBlank).lat = s.lat := rfl
@[simp] theorem State.driveBlank_blank : (s.driveBlank).blank = s.cfg.blankLevel s.blanked := rfl
@[simp] theorem State.driveBlank_trace : (s.driveBlank).trace = s.trace ++ [.pinSet (.blank (s.cfg.blankLevel s.blanked))] := rfl
@[simp] theorem State.driveBlank_clients : (s.driveBlank).clients = s.clients := rfl
@[simp] theorem State.driveBlank_irq : (s.driveBlank).irq = s.irq := rfl
@[simp] theorem State.driveBlank_sched : (s.driveBlank).sched = s.sched := rfl

/-! ### takeRequest -/

@[simp] theorem State.takeRequest_cfg (k : Nat) : (s.takeRequest k).cfg = s.cfg := rfl
@[simp] theorem State.takeRequest_slots (k : Nat) : (s.takeRequest k).slots = s.slots := rfl
@[simp] theorem State.takeRequest_mem (k : Nat) : (s.takeRequest k).mem = s.mem := rfl
@[simp] theorem State.takeRequest_cnt (k : Nat) : (s.takeRequest k).cnt = s.cnt := rfl
@[simp] theorem State.takeRequest_gt (k : Nat) : (s.takeRequest k).gt = s.gt := rfl
@[simp] theorem State.takeRequest_tClk (k : Nat) : (s.takeRequest k).tClk = s.tClk := rfl
@[simp] theorem State.takeRequest_tLat (k : Nat) : (s.takeRequest k).tLat = s.tLat := rfl
@[simp] theorem State.takeRequest_blankForce (k : Nat) : (s.takeRequest k).blankForce = s.blankForce := rfl
@[simp] theorem State.takeRequest_blankSer (k : Nat) : (s.takeRequest k).blankSer = s.blankSer := rfl
@[simp] theorem State.takeRequest_port (k : Nat) : (s.takeRequest k).port = s.port := rfl
@[simp] theorem State.takeRequest_ser (k : Nat) : (s.takeRequest k).ser = s.ser := rfl
@[simp] theorem State.takeRequest_dout (k : Nat) : (s.takeRequest k).dout = s.dout := rfl
@[simp] theorem State.takeRequest_clk (k : Nat) : (s.takeRequest k).clk = s.clk := rfl
@[simp] theorem State.takeRequest_lat (k : Nat) : (s.takeRequest k).lat = s.lat := rfl
@[simp] theorem State.takeRequest_blank (k : Nat) : (s.takeRequest k).blank = s.blank := rfl
@[simp] theorem State.takeRequest_trace (k : Nat) : (s.takeRequest k).trace = s.trace := rfl
@[simp] theorem State.takeRequest_clients (k : Nat) : (s.takeRequest k).clients = s.clients.modify k (fun c => { c with script := c.script.tail }) := rfl
@[simp] theorem State.takeRequest_irq (k : Nat) : (s.takeRequest k).irq = s.irq := rfl
@[simp] theorem State.takeRequest_sched (k : Nat) : (s.takeRequest k).sched = s.sched := rfl

/-! ### commitStart -/

@[simp] theorem commitStart_cfg (h : Handle) (n : Nat) : (commitStart h n s).cfg = s.cfg := rfl
@[simp] theorem commitStart_slots (h : Handle) (n : Nat) : (commitStart h n s).slots = s.slots := rfl
@[simp] theorem commitStart_mem (h : Handle) (n : Nat) : (commitStart h n s).mem = s.mem := rfl
@[simp] theorem commitStart_cnt (h : Handle) (n : Nat) : (commitStart h n s).cnt = s.cnt := rfl
@[simp] theorem commitStart_gt (h : Handle) (n : Nat) : (commitStart h n s).gt = s.gt := rfl
@[simp] theorem commitStart_tClk (h : Handle) (n : Nat) : (commitStart h n s).tClk = s.tClk := rfl
@[simp] theorem commitStart_tLat (h : Handle) (n : Nat) : (commitStart h n s).tLat = s.tLat := rfl
@[simp] theorem commitStart_blankForce (h : Handle) (n : Nat) : (commitStart h n s).blankForce = s.blankForce := rfl
@[simp] theorem commitStart_blankSer (h : Handle) (n : Nat) : (commitStart h n s).blankSer = s.blankSer := rfl
@[simp] theorem commitStart_port (h : Handle) (n : Nat) : (commitStart h n s).port = .held h n := rfl
@[simp] theorem commitStart_ser (h : Handle) (n : Nat) : (commitStart h n s).ser = .run 0 := rfl
@[simp] theorem commitStart_dout (h : Handle) (n : Nat) : (commitStart h n s).dout = s.dout := rfl
@[simp] theorem commitStart_clk (h : Handle) (n : Nat) : (commitStart h n s).clk = s.clk := rfl
@[simp] theorem commitStart_lat (h : Handle) (n : Nat) : (commitStart h n s).lat = s.lat := rfl
@[simp] theorem commitStart_blank (h : Handle) (n : Nat) : (commitStart h n s).blank = s.blank := rfl
@[simp] theorem commitStart_trace (h : Handle) (n : Nat) : (commitStart h n s).trace = s.trace := rfl
@[simp] theorem commitStart_clients (h : Handle) (n : Nat) : (commitStart h n s).clients = s.clients := rfl
@[simp] theorem commitStart_irq (h : Handle) (n : Nat) : (commitStart h n s).irq = s.irq := rfl
@[simp] theorem commitStart_sched (h : Handle) (n : Nat) : (commitStart h n s).sched = s.sched := rfl

/-! ### register -/

@[simp] theorem register_cfg (h : Handle) (l : Half) (x : Bool) : (register h l x s).cfg = s.cfg := rfl
@[simp] theorem register_mem (h : Handle) (l : Half) (x : Bool) : (register h l x s).mem = s.mem := rfl
@[simp] theorem register_cnt (h : Handle) (l : Half) (x : Bool) : (register h l x s).cnt = s.cnt := rfl
@[simp] theorem register_gt (h : Handle) (l : Half) (x : Bool) : (register h l x s).gt = s.gt := rfl
@[simp] theorem register_tClk (h : Handle) (l : Half) (x : Bool) : (register h l x s).tClk = s.tClk := rfl
@[simp] theorem register_tLat (h : Handle) (l : Half) (x : Bool) : (register h l x s).tLat = s.tLat := rfl
@[simp] theorem register_blankForce (h : Handle) (l : Half) (x : Bool) : (register h l x s).blankForce = s.blankForce := rfl
@[simp] theorem register_blankSer (h : Handle) (l : Half) (x : Bool) : (register h l x s).blankSer = s.blankSer := rfl
@[simp] theorem register_port (h : Handle) (l : Half) (x : Bool) : (register h l x s).port = s.port := rfl
@[simp] theorem register_ser (h : Handle) (l : Half) (x : Bool) : (register h l x s).ser = s.ser := rfl
@[simp] theorem register_dout (h : Handle) (l : Half) (x : Bool) : (register h l x s).dout = s.dout := rfl
@[simp] theorem register_clk (h : Handle) (l : Half) (x : Bool) : (register h l x s).clk = s.clk := rfl
@[simp] theorem register_lat (h : Handle) (l : Half) (x : Bool) : (register h l x s).lat = s.lat := rfl
@[simp] theorem register_blank (h : Handle) (l : Half) (x : Bool) : (register h l x s).blank = s.blank := rfl
@[simp] theorem register_trace (h : Handle) (l : Half) (x : Bool) : (register h l x s).trace = s.trace := rfl
@[simp] theorem register_clients (h : Handle) (l : Half) (x : Bool) : (register h l x s).clients = s.clients := rfl
@[simp] theorem register_irq (h : Handle) (l : Half) (x : Bool) : (register h l x s).irq = s.irq := rfl
@[simp] theorem register_sched (h : Handle) (l : Half) (x : Bool) : (register h l x s).sched = s.sched := rfl

/-! ### setLatchDelay -/

@[simp] theorem setLatchDelay_cfg (t : Word) : (setLatchDelay t s).cfg = s.cfg := rfl
@[simp] theorem setLatchDelay_slots (t : Word) : (setLatchDelay t s).slots = s.slots := rfl
@[simp] theorem setLatchDelay_mem (t : Word) : (setLatchDelay t s).mem = s.mem := rfl
@[simp] theorem setLatchDelay_cnt (t : Word) : (setLatchDelay t s).cnt = s.cnt := rfl
@[simp] theorem setLatchDelay_gt (t : Word) : (setLatchDelay t s).gt = s.gt := rfl
@[simp] theorem setLatchDelay_tClk (t : Word) : (setLatchDelay t s).tClk = s.tClk := rfl
@[simp] theorem setLatchDelay_tLat (t : Word) : (setLatchDelay t s).tLat = t := rfl
@[simp] theorem setLatchDelay_blankForce (t : Word) : (setLatchDelay t s).blankForce = s.blankForce := rfl
@[simp] theorem setLatchDelay_blankSer (t : Word) : (setLatchDelay t s).blankSer = s.blankSer := rfl
@[simp] theorem setLatchDelay_port (t : Word) : (setLatchDelay t s).port = s.port := rfl
@[simp] theorem setLatchDelay_ser (t : Word) : (setLatchDelay t s).ser = s.ser := rfl
@[simp] theorem setLatchDelay_dout (t : Word) : (setLatchDelay t s).dout = s.dout := rfl
@[simp] theorem setLatchDelay_clk (t : Word) : (setLatchDelay t s).clk = s.clk := rfl
@[simp] theorem setLatchDelay_lat (t : Word) : (setLatchDelay t s).lat = s.lat := rfl
@[simp] theorem setLatchDelay_blank (t : Word) : (setLatchDelay t s).blank = s.blank := rfl
@[simp] theorem setLatchDelay_trace (t : Word) : (setLatchDelay t s).trace = s.trace := rfl
@[simp] theorem setLatchDelay_clients (t : Word) : (setLatchDelay t s).clients = s.clients := rfl
@[simp] theorem setLatchDelay_irq (t : Word) : (setLatchDelay t s).irq = s.irq := rfl
@[simp] theorem setLatchDelay_sched (t : Word) : (setLatchDelay t s).sched = s.sched := rfl

/-! ### setClockDelay -/

@[simp] theorem setClockDelay_cfg (t : Word) : (setClockDelay t s).cfg = s.cfg := rfl
@[simp] theorem setClockDelay_slots (t : Word) : (setClockDelay t s).slots = s.slots := rfl
@[simp] theorem setClockDelay_mem (t : Word) : (setClockDelay t s).mem = s.mem := rfl
@[simp] theorem setClockDelay_cnt (t : Word) : (setClockDelay t s).cnt = s.cnt := rfl
@[simp] theorem setClockDelay_gt (t : Word) : (setClockDelay t s).gt = s.gt := rfl
@[simp] theorem setClockDelay_tClk (t : Word) : (setClockDelay t s).tClk = t := rfl
@[simp] theorem setClockDelay_tLat (t : Word) : (setClockDelay t s).tLat = s.tLat := rfl
@[simp] theorem setClockDelay_blankForce (t : Word) : (setClockDelay t s).blankForce = s.blankForce := rfl
@[simp] theorem setClockDelay_blankSer (t : Word) : (setClockDelay t s).blankSer = s.blankSer := rfl
@[simp] theorem setClockDelay_port (t : Word) : (setClockDelay t s).port = s.port := rfl
@[simp] theorem setClockDelay_ser (t : Word) : (setClockDelay t s).ser = s.ser := rfl
@[simp] theorem setClockDelay_dout (t : Word) : (setClockDelay t s).dout = s.dout := rfl
@[simp] theorem setClockDelay_clk (t : Word) : (setClockDelay t s).clk = s.clk := rfl
@[simp] theorem setClockDelay_lat (t : Word) : (setClockDelay t s).lat = s.lat := rfl
@[simp] theorem setClockDelay_blank (t : Word) : (setClockDelay t s).blank = s.blank := rfl
@[simp] theorem setClockDelay_trace (t : Word) : (setClockDelay t s).trace = s.trace := rfl
@[simp] theorem setClockDelay_clients (t : Word) : (setClockDelay t s).clients = s.clients := rfl
@[simp] theorem setClockDelay_irq (t : Word) : (setClockDelay t s).irq = s.irq := rfl
@[simp] theorem setClockDelay_sched (t : Word) : (setClockDelay t s).sched = s.sched := rfl

/-! ### setGamma -/

@[simp] theorem setGamma_cfg (g : Vector Half 256) : (setGamma g s).cfg = s.cfg := rfl
@[simp] theorem setGamma_slots (g : Vector Half 256) : (setGamma g s).slots = s.slots := rfl
@[simp] theorem setGamma_mem (g : Vector Half 256) : (setGamma g s).mem = s.mem := rfl
@[simp] theorem setGamma_cnt (g : Vector Half 256) : (setGamma g s).cnt = s.cnt := rfl
@[simp] theorem setGamma_gt (g : Vector Half 256) : (setGamma g s).gt = g := rfl
@[simp] theorem setGamma_tClk (g : Vector Half 256) : (setGamma g s).tClk = s.tClk := rfl
@[simp] theorem setGamma_tLat (g : Vector Half 256) : (setGamma g s).tLat = s.tLat := rfl
@[simp] theorem setGamma_blankForce (g : Vector Half 256) : (setGamma g s).blankForce = s.blankForce := rfl
@[simp] theorem setGamma_blankSer (g : Vector Half 256) : (setGamma g s).blankSer = s.blankSer := rfl
@[simp] theorem setGamma_port (g : Vector Half 256) : (setGamma g s).port = s.port := rfl
@[simp] theorem setGamma_ser (g : Vector Half 256) : (setGamma g s).ser = s.ser := rfl
@[simp] theorem setGamma_dout (g : Vector Half 256) : (setGamma g s).dout = s.dout := rfl
@[simp] theorem setGamma_clk (g : Vector Half 256) : (setGamma g s).clk = s.clk := rfl
@[simp] theorem setGamma_lat (g : Vector Half 256) : (setGamma g s).lat = s.lat := rfl
@[simp] theorem setGamma_blank (g : Vector Half 256) : (setGamma g s).blank = s.blank := rfl
@[simp] theorem setGamma_trace (g : Vector Half 256) : (setGamma g s).trace = s.trace := rfl
@[simp] theorem setGamma_clients (g : Vector Half 256) : (setGamma g s).clients = s.clients := rfl
@[simp] theorem setGamma_irq (g : Vector Half 256) : (setGamma g s).irq = s.irq := rfl
@[simp] theorem setGamma_sched (g : Vector Half 256) : (setGamma g s).sched = s.sched := rfl

/-! ### setBlank -/

@[simp] theorem setBlank_cfg (b : Bool) : (setBlank b s).cfg = s.cfg := rfl
@[simp] theorem setBlank_slots (b : Bool) : (setBlank b s).slots = s.slots := rfl
@[simp] theorem setBlank_mem (b : Bool) : (setBlank b s).mem = s.mem := rfl
@[simp] theorem setBlank_cnt (b : Bool) : (setBlank b s).cnt = s.cnt := rfl
@[simp] theorem setBlank_gt (b : Bool) : (setBlank b s).gt = s.gt := rfl
@[simp] theorem setBlank_tClk (b : Bool) : (setBlank b s).tClk = s.tClk := rfl
@[simp] theorem setBlank_tLat (b : Bool) : (setBlank b s).tLat = s.tLat := rfl
@[simp] theorem setBlank_blankForce (b : Bool) : (setBlank b s).blankForce = b := rfl
@[simp] theorem setBlank_blankSer (b : Bool) : (setBlank b s).blankSer = s.blankSer := rfl
@[simp] theorem setBlank_port (b : Bool) : (setBlank b s).port = s.port := rfl
@[simp] theorem setBlank_ser (b : Bool) : (setBlank b s).ser = s.ser := rfl
@[simp] theorem setBlank_dout (b : Bool) : (setBlank b s).dout = s.dout := rfl
@[simp] theorem setBlank_clk (b : Bool) : (setBlank b s).clk = s.clk := rfl
@[simp] theorem setBlank_lat (b : Bool) : (setBlank b s).lat = s.lat := rfl
@[simp] theorem setBlank_blank (b : Bool) : (setBlank b s).blank = s.cfg.blankLevel (b || s.blankSer) := rfl
@[simp] theorem setBlank_trace (b : Bool) : (setBlank b s).trace = s.trace ++ [.pinSet (.blank (s.cfg.blankLevel (b || s.blankSer)))] := rfl
@[simp] theorem setBlank_clients (b : Bool) : (setBlank b s).clients = s.clients := rfl
@[simp] theorem setBlank_irq (b : Bool) : (setBlank b s).irq = s.irq := rfl
@[simp] theorem setBlank_sched (b : Bool) : (setBlank b s).sched = s.sched := rfl

/-! ### countFrame -/

@[simp] theorem countFrame_cfg : (countFrame s).cfg = s.cfg := rfl
@[simp] theorem countFrame_slots : (countFrame s).slots = s.slots := rfl
@[simp] theorem countFrame_mem : (countFrame s).mem = s.mem := rfl
@[simp] theorem countFrame_cnt : (countFrame s).cnt = (s.cnt + 1) % 2 ^ s.cfg.cntW := rfl
@[simp] theorem countFrame_gt : (countFrame s).gt = s.gt := rfl
@[simp] theorem countFrame_tClk : (countFrame s).tClk = s.tClk := rfl
@[simp] theorem countFrame_tLat : (countFrame s).tLat = s.tLat := rfl
@[simp] theorem countFrame_blankForce : (countFrame s).blankForce = s.blankForce := rfl
@[simp] theorem countFrame_blankSer : (countFrame s).blankSer = s.blankSer := rfl
@[simp] theorem countFrame_port : (countFrame s).port = s.port := rfl
@[simp] theorem countFrame_ser : (countFrame s).ser = s.ser := rfl
@[simp] theorem countFrame_dout : (countFrame s).dout = s.dout := rfl
@[simp] theorem countFrame_clk : (countFrame s).clk = s.clk := rfl
@[simp] theorem countFrame_lat : (countFrame s).lat = s.lat := rfl
@[simp] theorem countFrame_blank : (countFrame s).blank = s.blank := rfl
@[simp] theorem countFrame_trace : (countFrame s).trace = s.trace ++ [.frameReady ((s.cnt + 1) % 2 ^ s.cfg.cntW)] := rfl
@[simp] theorem countFrame_clients : (countFrame s).clients = s.clients := rfl
@[simp] theorem countFrame_irq : (countFrame s).irq = s.irq := rfl
@[simp] theorem countFrame_sched : (countFrame s).sched = s.sched := rfl

/-! ### settle -/

@[simp] theorem settle_cfg : (settle s).cfg = s.cfg := rfl
@[simp] theorem settle_slots : (settle s).slots = s.slots := rfl
@[simp] theorem settle_mem : (settle s).mem = s.mem := rfl
@[simp] theorem settle_cnt : (settle s).cnt = s.cnt := rfl
@[simp] theorem settle_gt : (settle s).gt = s.gt := rfl
@[simp] theorem settle_tClk : (settle s).tClk = s.tClk := rfl
@[simp] theorem settle_tLat : (settle s).tLat = s.tLat := rfl
@[simp] theorem settle_blankForce : (settle s).blankForce = s.blankForce := rfl
@[simp] theorem settle_blankSer : (settle s).blankSer = s.blankSer := rfl
@[simp] theorem settle_port : (settle s).port = s.port := rfl
@[simp] theorem settle_ser : (settle s).ser = s.ser := rfl
@[simp] theorem settle_dout : (settle s).dout = s.dout := rfl
@[simp] theorem settle_clk : (settle s).clk = s.clk := rfl
@[simp] theorem settle_lat : (settle s).lat = s.lat := rfl
@[simp] theorem settle_blank : (settle s).blank = s.blank := rfl
@[simp] theorem settle_trace : (settle s).trace = s.trace := rfl
@[simp] theorem settle_clients : (settle s).clients = s.clients.map (Client.release s) := rfl
@[simp] theorem settle_irq : (settle s).irq = s.irq := rfl
@[simp] theorem settle_sched : (settle s).sched = s.sched := rfl

/-! ### drive -/

@[simp] theorem State.drive_cfg (p : Pin) : (s.drive p).cfg = s.cfg := by cases p <;> rfl
@[simp] theorem State.drive_slots (p : Pin) : (s.drive p).slots = s.slots := by cases p <;> rfl
@[simp] theorem State.drive_mem (p : Pin) : (s.drive p).mem = s.mem := by cases p <;> rfl
@[simp] theorem State.drive_cnt (p : Pin) : (s.drive p).cnt = s.cnt := by cases p <;> rfl
@[simp] theorem State.drive_gt (p : Pin) : (s.drive p).gt = s.gt := by cases p <;> rfl
@[simp] theorem State.drive_tClk (p : Pin) : (s.drive p).tClk = s.tClk := by cases p <;> rfl
@[simp] theorem State.drive_tLat (p : Pin) : (s.drive p).tLat = s.tLat := by cases p <;> rfl
@[simp] theorem State.drive_blankForce (p : Pin) : (s.drive p).blankForce = s.blankForce := by cases p <;> rfl
@[simp] theorem State.drive_blankSer (p : Pin) : (s.drive p).blankSer = s.blankSer := by cases p <;> rfl
@[simp] theorem State.drive_port (p : Pin) : (s.drive p).port = s.port := by cases p <;> rfl
@[simp] theorem State.drive_ser (p : Pin) : (s.drive p).ser = s.ser := by cases p <;> rfl
@[simp] theorem State.drive_clients (p : Pin) : (s.drive p).clients = s.clients := by cases p <;> rfl
@[simp] theorem State.drive_irq (p : Pin) : (s.drive p).irq = s.irq := by cases p <;> rfl
@[simp] theorem State.drive_sched (p : Pin) : (s.drive p).sched = s.sched := by cases p <;> rfl
@[simp] theorem State.drive_trace (p : Pin) : (s.drive p).trace = s.trace ++ [.pinSet p] := by cases p <;> rfl
@[simp] theorem State.drive_dout_dout (l : DoutWord) : (s.drive (.dout l)).dout = l := rfl
@[simp] theorem State.drive_clk_dout (l : Bool) : (s.drive (.clk l)).dout = s.dout := rfl
@[simp] theorem State.drive_lat_dout (l : Bool) : (s.drive (.lat l)).dout = s.dout := rfl
@[simp] theorem State.drive_blank_dout (l : Bool) : (s.drive (.blank l)).dout = s.dout := rfl
@[simp] theorem State.drive_dout_clk (l : DoutWord) : (s.drive (.dout l)).clk = s.clk := rfl
@[simp] theorem State.drive_clk_clk (l : Bool) : (s.drive (.clk l)).clk = l := rfl
@[simp] theorem State.drive_lat_clk (l : Bool) : (s.drive (.lat l)).clk = s.clk := rfl
@[simp] theorem State.drive_blank_clk (l : Bool) : (s.drive (.blank l)).clk = s.clk := rfl
@[simp] theorem State.drive_dout_lat (l : DoutWord) : (s.drive (.dout l)).lat = s.lat := rfl
@[simp] theorem State.drive_clk_lat (l : Bool) : (s.drive (.clk l)).lat = s.lat := rfl
@[simp] theorem State.drive_lat_lat (l : Bool) : (s.drive (.lat l)).lat = l := rfl
@[simp] theorem State.drive_blank_lat (l : Bool) : (s.drive (.blank l)).lat = s.lat := rfl
@[simp] theorem State.drive_dout_blank (l : DoutWord) : (s.drive (.dout l)).blank = s.blank := rfl
@[simp] theorem State.drive_clk_blank (l : Bool) : (s.drive (.clk l)).blank = s.blank := rfl
@[simp] theorem State.drive_lat_blank (l : Bool) : (s.drive (.lat l)).blank = s.blank := rfl
@[simp] theorem State.drive_blank_blank (l : Bool) : (s.drive (.blank l)).blank = l := rfl

/-! ### noteWait -/

@[simp] theorem noteWait_cfg (k : Nat) (h : Handle) (b : State) : (noteWait k h b s).cfg = s.cfg := by unfold noteWait; split <;> rfl
@[simp] theorem noteWait_slots (k : Nat) (h : Handle) (b : State) : (noteWait k h b s).slots = s.slots := by unfold noteWait; split <;> rfl
@[simp] theorem noteWait_mem (k : Nat) (h : Handle) (b : State) : (noteWait k h b s).mem = s.mem := by unfold noteWait; split <;> rfl
@[simp] theorem noteWait_cnt (k : Nat) (h : Handle) (b : State) : (noteWait k h b s).cnt = s.cnt := by unfold noteWait; split <;> rfl
@[simp] theorem noteWait_gt (k : Nat) (h : Handle) (b : State) : (noteWait k h b s).gt = s.gt := by unfold noteWait; split <;> rfl
@[simp] theorem noteWait_tClk (k : Nat) (h : Handle) (b : State) : (noteWait k h b s).tClk = s.tClk := by unfold noteWait; split <;> rfl
@[simp] theorem noteWait_tLat (k : Nat) (h : Handle) (b : State) : (noteWait k h b s).tLat = s.tLat := by unfold noteWait; split <;> rfl
@[simp] theorem noteWait_blankForce (k : Nat) (h : Handle) (b : State) : (noteWait k h b s).blankForce = s.blankForce := by unfold noteWait; split <;> rfl
@[simp] theorem noteWait_blankSer (k : Nat) (h : Handle) (b : State) : (noteWait k h b s).blankSer = s.blankSer := by unfold noteWait; split <;> rfl
@[simp] theorem noteWait_port (k : Nat) (h : Handle) (b : State) : (noteWait k h b s).port = s.port := by unfold noteWait; split <;> rfl
@[simp] theorem noteWait_ser (k : Nat) (h : Handle) (b : State) : (noteWait k h b s).ser = s.ser := by unfold noteWait; split <;> rfl
@[simp] theorem noteWait_dout (k : Nat) (h : Handle) (b : State) : (noteWait k h b s).dout = s.dout := by unfold noteWait; split <;> rfl
@[simp] theorem noteWait_clk (k : Nat) (h : Handle) (b : State) : (noteWait k h b s).clk = s.clk := by unfold noteWait; split <;> rfl
@[simp] theorem noteWait_lat (k : Nat) (h : Handle) (b : State) : (noteWait k h b s).lat = s.lat := by unfold noteWait; split <;> rfl
@[simp] theorem noteWait_blank (k : Nat) (h : Handle) (b : State) : (noteWait k h b s).blank = s.blank := by unfold noteWait; split <;> rfl
@[simp] theorem noteWait_trace (k : Nat) (h : Handle) (b : State) : (noteWait k h b s).trace = s.trace := by unfold noteWait; split <;> rfl
@[simp] theorem noteWait_irq (k : Nat) (h : Handle) (b : State) : (noteWait k h b s).irq = s.irq := by unfold noteWait; split <;> rfl
@[simp] theorem noteWait_sched (k : Nat) (h : Handle) (b : State) : (noteWait k h b s).sched = s.sched := by unfold noteWait; split <;> rfl

/-! ### Handle slots -/

/-- A slot that has been set. -/
theorem State.slot_setSlot (h g : Handle) (v : Slot) : (s.setSlot h v).slot g = if g = h then v else s.slot g := by
  simp only [State.slot, State.setSlot, Vector.getElem_set, BitVec.toNat_inj, eq_comm (a := h)]

@[simp] theorem State.slot_setSlot_self (h : Handle) (v : Slot) : (s.setSlot h v).slot h = v := by
  simp [State.slot_setSlot]

theorem State.slot_setSlot_ne {h g : Handle} (v : Slot) (hne : g ≠ h) : (s.setSlot h v).slot g = s.slot g := by
  simp [State.slot_setSlot, hne]

/-- Setting a slot to what it holds changes nothing. -/
@[simp] theorem State.setSlot_slot (h : Handle) : s.setSlot h (s.slot h) = s := by
  simp [State.setSlot, State.slot]

theorem State.slot_setPos (h g : Handle) (a : Nat) :
    (s.setPos h a).slot g = if g = h then { s.slot h with pos := a } else s.slot g := State.slot_setSlot s h g _

@[simp] theorem State.slot_setPos_self (h : Handle) (a : Nat) : (s.setPos h a).slot h = { s.slot h with pos := a } :=
  State.slot_setSlot_self s h _

theorem State.slot_setPend (h g : Handle) (w : Option Waiter) :
    (s.setPend h w).slot g = if g = h then { s.slot h with pend := w } else s.slot g := State.slot_setSlot s h g _

@[simp] theorem State.slot_setPend_self (h : Handle) (w : Option Waiter) :
    (s.setPend h w).slot h = { s.slot h with pend := w } := State.slot_setSlot_self s h _

theorem State.slot_setOpen (h g : Handle) (b : Bool) :
    (s.setOpen h b).slot g = if g = h then { s.slot h with isOpen := b } else s.slot g := State.slot_setSlot s h g _

@[simp] theorem State.slot_setOpen_self (h : Handle) (b : Bool) :
    (s.setOpen h b).slot h = { s.slot h with isOpen := b } := State.slot_setSlot_self s h _

/-! ### The accessors -/

@[simp] theorem State.slot_emit (e : Event) (q : Handle) : (s.emit e).slot q = s.slot q := rfl
@[simp] theorem State.slot_wait (t : Word) (q : Handle) : (s.wait t).slot q = s.slot q := rfl
@[simp] theorem State.slot_respond (st : Status) (h : Handle) (n : Nat) (d : List Byte) (q : Handle) : (s.respond st h n d).slot q = s.slot q := rfl
@[simp] theorem State.slot_raise (st : Status) (h : Handle) (q : Handle) : (s.raise st h).slot q = s.slot q := rfl
@[simp] theorem State.slot_received (i : Instr) (q : Handle) : (s.received i).slot q = s.slot q := rfl
@[simp] theorem State.slot_driveBlank (q : Handle) : (s.driveBlank).slot q = s.slot q := rfl
@[simp] theorem State.slot_takeRequest (k : Nat) (q : Handle) : (s.takeRequest k).slot q = s.slot q := rfl
@[simp] theorem State.slot_commitStart (h : Handle) (n : Nat) (q : Handle) : (commitStart h n s).slot q = s.slot q := rfl
@[simp] theorem State.slot_setLatchDelay (t : Word) (q : Handle) : (setLatchDelay t s).slot q = s.slot q := rfl
@[simp] theorem State.slot_setClockDelay (t : Word) (q : Handle) : (setClockDelay t s).slot q = s.slot q := rfl
@[simp] theorem State.slot_setGamma (g : Vector Half 256) (q : Handle) : (setGamma g s).slot q = s.slot q := rfl
@[simp] theorem State.slot_setBlank (b : Bool) (q : Handle) : (setBlank b s).slot q = s.slot q := rfl
@[simp] theorem State.slot_countFrame (q : Handle) : (countFrame s).slot q = s.slot q := rfl
@[simp] theorem State.slot_settle (q : Handle) : (settle s).slot q = s.slot q := rfl
@[simp] theorem State.slot_drive (p : Pin) (q : Handle) : (s.drive p).slot q = s.slot q := by cases p <;> rfl
@[simp] theorem State.slot_noteWait (k : Nat) (h : Handle) (b : State) (q : Handle) : (noteWait k h b s).slot q = s.slot q := by unfold noteWait; split <;> rfl
@[simp] theorem State.bound_emit (e : Event) (q : Handle) : (s.emit e).bound q = s.bound q := rfl
@[simp] theorem State.bound_wait (t : Word) (q : Handle) : (s.wait t).bound q = s.bound q := rfl
@[simp] theorem State.bound_respond (st : Status) (h : Handle) (n : Nat) (d : List Byte) (q : Handle) : (s.respond st h n d).bound q = s.bound q := rfl
@[simp] theorem State.bound_raise (st : Status) (h : Handle) (q : Handle) : (s.raise st h).bound q = s.bound q := rfl
@[simp] theorem State.bound_received (i : Instr) (q : Handle) : (s.received i).bound q = s.bound q := rfl
@[simp] theorem State.bound_driveBlank (q : Handle) : (s.driveBlank).bound q = s.bound q := rfl
@[simp] theorem State.bound_takeRequest (k : Nat) (q : Handle) : (s.takeRequest k).bound q = s.bound q := rfl
@[simp] theorem State.bound_commitStart (h : Handle) (n : Nat) (q : Handle) : (commitStart h n s).bound q = s.bound q := rfl
@[simp] theorem State.bound_setLatchDelay (t : Word) (q : Handle) : (setLatchDelay t s).bound q = s.bound q := rfl
@[simp] theorem State.bound_setClockDelay (t : Word) (q : Handle) : (setClockDelay t s).bound q = s.bound q := rfl
@[simp] theorem State.bound_setGamma (g : Vector Half 256) (q : Handle) : (setGamma g s).bound q = s.bound q := rfl
@[simp] theorem State.bound_setBlank (b : Bool) (q : Handle) : (setBlank b s).bound q = s.bound q := rfl
@[simp] theorem State.bound_countFrame (q : Handle) : (countFrame s).bound q = s.bound q := rfl
@[simp] theorem State.bound_settle (q : Handle) : (settle s).bound q = s.bound q := rfl
@[simp] theorem State.bound_drive (p : Pin) (q : Handle) : (s.drive p).bound q = s.bound q := by cases p <;> rfl
@[simp] theorem State.bound_noteWait (k : Nat) (h : Handle) (b : State) (q : Handle) : (noteWait k h b s).bound q = s.bound q := by unfold noteWait; split <;> rfl
@[simp] theorem State.waiting_emit (e : Event) (q : Handle) : (s.emit e).waiting q = s.waiting q := rfl
@[simp] theorem State.waiting_wait (t : Word) (q : Handle) : (s.wait t).waiting q = s.waiting q := rfl
@[simp] theorem State.waiting_respond (st : Status) (h : Handle) (n : Nat) (d : List Byte) (q : Handle) : (s.respond st h n d).waiting q = s.waiting q := rfl
@[simp] theorem State.waiting_raise (st : Status) (h : Handle) (q : Handle) : (s.raise st h).waiting q = s.waiting q := rfl
@[simp] theorem State.waiting_received (i : Instr) (q : Handle) : (s.received i).waiting q = s.waiting q := rfl
@[simp] theorem State.waiting_driveBlank (q : Handle) : (s.driveBlank).waiting q = s.waiting q := rfl
@[simp] theorem State.waiting_takeRequest (k : Nat) (q : Handle) : (s.takeRequest k).waiting q = s.waiting q := rfl
@[simp] theorem State.waiting_commitStart (h : Handle) (n : Nat) (q : Handle) : (commitStart h n s).waiting q = s.waiting q := rfl
@[simp] theorem State.waiting_setLatchDelay (t : Word) (q : Handle) : (setLatchDelay t s).waiting q = s.waiting q := rfl
@[simp] theorem State.waiting_setClockDelay (t : Word) (q : Handle) : (setClockDelay t s).waiting q = s.waiting q := rfl
@[simp] theorem State.waiting_setGamma (g : Vector Half 256) (q : Handle) : (setGamma g s).waiting q = s.waiting q := rfl
@[simp] theorem State.waiting_setBlank (b : Bool) (q : Handle) : (setBlank b s).waiting q = s.waiting q := rfl
@[simp] theorem State.waiting_countFrame (q : Handle) : (countFrame s).waiting q = s.waiting q := rfl
@[simp] theorem State.waiting_settle (q : Handle) : (settle s).waiting q = s.waiting q := rfl
@[simp] theorem State.waiting_drive (p : Pin) (q : Handle) : (s.drive p).waiting q = s.waiting q := by cases p <;> rfl
@[simp] theorem State.waiting_noteWait (k : Nat) (h : Handle) (b : State) (q : Handle) : (noteWait k h b s).waiting q = s.waiting q := by unfold noteWait; split <;> rfl
@[simp] theorem State.outstanding_emit (e : Event) (q : Handle) : (s.emit e).outstanding q = s.outstanding q := rfl
@[simp] theorem State.outstanding_wait (t : Word) (q : Handle) : (s.wait t).outstanding q = s.outstanding q := rfl
@[simp] theorem State.outstanding_respond (st : Status) (h : Handle) (n : Nat) (d : List Byte) (q : Handle) : (s.respond st h n d).outstanding q = s.outstanding q := rfl
@[simp] theorem State.outstanding_raise (st : Status) (h : Handle) (q : Handle) : (s.raise st h).outstanding q = s.outstanding q := rfl
@[simp] theorem State.outstanding_received (i : Instr) (q : Handle) : (s.received i).outstanding q = s.outstanding q := rfl
@[simp] theorem State.outstanding_driveBlank (q : Handle) : (s.driveBlank).outstanding q = s.outstanding q := rfl
@[simp] theorem State.outstanding_takeRequest (k : Nat) (q : Handle) : (s.takeRequest k).outstanding q = s.outstanding q := rfl
@[simp] theorem State.outstanding_setLatchDelay (t : Word) (q : Handle) : (setLatchDelay t s).outstanding q = s.outstanding q := rfl
@[simp] theorem State.outstanding_setClockDelay (t : Word) (q : Handle) : (setClockDelay t s).outstanding q = s.outstanding q := rfl
@[simp] theorem State.outstanding_setGamma (g : Vector Half 256) (q : Handle) : (setGamma g s).outstanding q = s.outstanding q := rfl
@[simp] theorem State.outstanding_setBlank (b : Bool) (q : Handle) : (setBlank b s).outstanding q = s.outstanding q := rfl
@[simp] theorem State.outstanding_countFrame (q : Handle) : (countFrame s).outstanding q = s.outstanding q := rfl
@[simp] theorem State.outstanding_settle (q : Handle) : (settle s).outstanding q = s.outstanding q := rfl
@[simp] theorem State.outstanding_drive (p : Pin) (q : Handle) : (s.drive p).outstanding q = s.outstanding q := by cases p <;> rfl
@[simp] theorem State.outstanding_noteWait (k : Nat) (h : Handle) (b : State) (q : Handle) : (noteWait k h b s).outstanding q = s.outstanding q := by unfold noteWait; split <;> rfl
@[simp] theorem State.fbBytes_setSlot (h : Handle) (v : Slot) : (s.setSlot h v).fbBytes = s.fbBytes := rfl
@[simp] theorem State.fbBytes_setOpen (h : Handle) (b : Bool) : (s.setOpen h b).fbBytes = s.fbBytes := rfl
@[simp] theorem State.fbBytes_setPos (h : Handle) (a : Nat) : (s.setPos h a).fbBytes = s.fbBytes := rfl
@[simp] theorem State.fbBytes_setPend (h : Handle) (w : Option Waiter) : (s.setPend h w).fbBytes = s.fbBytes := rfl
@[simp] theorem State.fbBytes_emit (e : Event) : (s.emit e).fbBytes = s.fbBytes := rfl
@[simp] theorem State.fbBytes_wait (t : Word) : (s.wait t).fbBytes = s.fbBytes := rfl
@[simp] theorem State.fbBytes_respond (st : Status) (h : Handle) (n : Nat) (d : List Byte) : (s.respond st h n d).fbBytes = s.fbBytes := rfl
@[simp] theorem State.fbBytes_raise (st : Status) (h : Handle) : (s.raise st h).fbBytes = s.fbBytes := rfl
@[simp] theorem State.fbBytes_received (i : Instr) : (s.received i).fbBytes = s.fbBytes := rfl
@[simp] theorem State.fbBytes_driveBlank : (s.driveBlank).fbBytes = s.fbBytes := rfl
@[simp] theorem State.fbBytes_takeRequest (k : Nat) : (s.takeRequest k).fbBytes = s.fbBytes := rfl
@[simp] theorem State.fbBytes_commitStart (h : Handle) (n : Nat) : (commitStart h n s).fbBytes = s.fbBytes := rfl
@[simp] theorem State.fbBytes_register (h : Handle) (l : Half) (x : Bool) : (register h l x s).fbBytes = s.fbBytes := rfl
@[simp] theorem State.fbBytes_setLatchDelay (t : Word) : (setLatchDelay t s).fbBytes = s.fbBytes := rfl
@[simp] theorem State.fbBytes_setClockDelay (t : Word) : (setClockDelay t s).fbBytes = s.fbBytes := rfl
@[simp] theorem State.fbBytes_setGamma (g : Vector Half 256) : (setGamma g s).fbBytes = s.fbBytes := rfl
@[simp] theorem State.fbBytes_setBlank (b : Bool) : (setBlank b s).fbBytes = s.fbBytes := rfl
@[simp] theorem State.fbBytes_countFrame  : (countFrame s).fbBytes = s.fbBytes := rfl
@[simp] theorem State.fbBytes_settle  : (settle s).fbBytes = s.fbBytes := rfl
@[simp] theorem State.fbBytes_drive (p : Pin) : (s.drive p).fbBytes = s.fbBytes := by cases p <;> rfl
@[simp] theorem State.fbBytes_noteWait (k : Nat) (h : Handle) (b : State) : (noteWait k h b s).fbBytes = s.fbBytes := by unfold noteWait; split <;> rfl
@[simp] theorem State.blanked_setSlot (h : Handle) (v : Slot) : (s.setSlot h v).blanked = s.blanked := rfl
@[simp] theorem State.blanked_setOpen (h : Handle) (b : Bool) : (s.setOpen h b).blanked = s.blanked := rfl
@[simp] theorem State.blanked_setPos (h : Handle) (a : Nat) : (s.setPos h a).blanked = s.blanked := rfl
@[simp] theorem State.blanked_setPend (h : Handle) (w : Option Waiter) : (s.setPend h w).blanked = s.blanked := rfl
@[simp] theorem State.blanked_emit (e : Event) : (s.emit e).blanked = s.blanked := rfl
@[simp] theorem State.blanked_wait (t : Word) : (s.wait t).blanked = s.blanked := rfl
@[simp] theorem State.blanked_respond (st : Status) (h : Handle) (n : Nat) (d : List Byte) : (s.respond st h n d).blanked = s.blanked := rfl
@[simp] theorem State.blanked_raise (st : Status) (h : Handle) : (s.raise st h).blanked = s.blanked := rfl
@[simp] theorem State.blanked_received (i : Instr) : (s.received i).blanked = s.blanked := rfl
@[simp] theorem State.blanked_driveBlank : (s.driveBlank).blanked = s.blanked := rfl
@[simp] theorem State.blanked_takeRequest (k : Nat) : (s.takeRequest k).blanked = s.blanked := rfl
@[simp] theorem State.blanked_commitStart (h : Handle) (n : Nat) : (commitStart h n s).blanked = s.blanked := rfl
@[simp] theorem State.blanked_register (h : Handle) (l : Half) (x : Bool) : (register h l x s).blanked = s.blanked := rfl
@[simp] theorem State.blanked_setLatchDelay (t : Word) : (setLatchDelay t s).blanked = s.blanked := rfl
@[simp] theorem State.blanked_setClockDelay (t : Word) : (setClockDelay t s).blanked = s.blanked := rfl
@[simp] theorem State.blanked_setGamma (g : Vector Half 256) : (setGamma g s).blanked = s.blanked := rfl
@[simp] theorem State.blanked_countFrame  : (countFrame s).blanked = s.blanked := rfl
@[simp] theorem State.blanked_settle  : (settle s).blanked = s.blanked := rfl
@[simp] theorem State.blanked_drive (p : Pin) : (s.drive p).blanked = s.blanked := by cases p <;> rfl
@[simp] theorem State.blanked_noteWait (k : Nat) (h : Handle) (b : State) : (noteWait k h b s).blanked = s.blanked := by unfold noteWait; split <;> rfl

theorem State.bound_iff (h : Handle) : s.bound h = true ↔ h.toNat < s.cfg.maxHandles ∧ (s.slot h).isOpen = true := by
  simp [State.bound, Nat.blt_eq]

theorem State.bound_setPos (h g : Handle) (a : Nat) : (s.setPos h a).bound g = s.bound g := by
  by_cases e : g = h
  · subst e; simp [State.bound]
  · simp [State.bound, State.slot_setPos, e]

theorem State.bound_setPend (h g : Handle) (w : Option Waiter) : (s.setPend h w).bound g = s.bound g := by
  by_cases e : g = h
  · subst e; simp [State.bound]
  · simp [State.bound, State.slot_setPend, e]

theorem State.waiting_setPos (h g : Handle) (a : Nat) : (s.setPos h a).waiting g = s.waiting g := by
  by_cases e : g = h
  · subst e; simp [State.waiting]
  · simp [State.waiting, State.slot_setPos, e]

theorem State.waiting_setOpen (h g : Handle) (b : Bool) : (s.setOpen h b).waiting g = s.waiting g := by
  by_cases e : g = h
  · subst e; simp [State.waiting]
  · simp [State.waiting, State.slot_setOpen, e]

theorem State.waiting_setPend (h g : Handle) (w : Option Waiter) :
    (s.setPend h w).waiting g = if g = h then w.isSome else s.waiting g := by
  by_cases e : g = h
  · subst e; simp [State.waiting]
  · simp [State.waiting, State.slot_setPend, e]

end Sys2Proof.Machine
end

