-- ==== Sys2Proof/Laws/Memory.lean ====
section
/-! SUPPORT. The frame buffer: reading what was written, the canonical form, and that equal contents are equal data. -/

namespace Sys2Proof.Machine

theorem Memory.wf_cons {c : Host.Cell} {m : Memory} :
    Memory.wf (c :: m) ↔ (∀ d ∈ m, c.1 < d.1) ∧ c.2 ≠ 0 ∧ Memory.wf m := by
  simp only [Memory.wf, List.pairwise_cons, List.forall_mem_cons]; tauto

theorem Memory.wf_nil : Memory.wf [] := by simp [Memory.wf]

/-- An address that is listed nowhere reads as the reset value. -/
theorem Memory.read_unlisted {m : Memory} {a : Nat} (h : ∀ c ∈ m, c.1 ≠ a) : m.read a = 0 := by
  induction m with
  | nil => rfl
  | cons c m ih =>
    simp only [List.forall_mem_cons] at h
    simp only [Memory.read, if_neg h.1, ih h.2]

/-- Every cell of a written memory is an old cell or the new one. -/
theorem Memory.mem_write {m : Memory} {a : Nat} {v : Byte} {c : Host.Cell} (h : c ∈ m.write a v) : c ∈ m ∨ c = (a, v) := by
  induction m with
  | nil => simp only [Memory.write] at h; split_ifs at h <;> simp_all
  | cons d m ih =>
    simp only [Memory.write] at h
    split_ifs at h <;> simp only [List.mem_cons] at h ⊢ <;> try tauto

theorem Memory.write_wf {m : Memory} (hm : m.wf) (a : Nat) (v : Byte) : (m.write a v).wf := by
  induction m with
  | nil =>
    simp only [Memory.write]
    split_ifs with h
    · exact Memory.wf_nil
    · exact Memory.wf_cons.2 ⟨by simp, h, Memory.wf_nil⟩
  | cons c m ih =>
    obtain ⟨hlt, hne, hwf⟩ := Memory.wf_cons.1 hm
    simp only [Memory.write]
    split_ifs with h1 h2 h3 h4
    · exact hm
    · refine Memory.wf_cons.2 ⟨?_, h2, hm⟩
      simp only [List.forall_mem_cons]
      exact ⟨h1, fun d hd => h1.trans (hlt d hd)⟩
    · exact hwf
    · exact Memory.wf_cons.2 ⟨fun d hd => h3 ▸ hlt d hd, h4, hwf⟩
    · refine Memory.wf_cons.2 ⟨fun d hd => ?_, hne, ih hwf⟩
      rcases Memory.mem_write hd with hd | hd
      · exact hlt d hd
      · subst hd; show c.1 < a; omega

theorem Memory.write_below {m : Memory} {n a : Nat} (hm : m.below n) (ha : a < n) (v : Byte) : (m.write a v).below n := by
  intro c hc
  rcases Memory.mem_write hc with h | h
  · exact hm c h
  · subst h; exact ha

/-- A byte reads back as written, and every other byte as before. -/
theorem Memory.read_write {m : Memory} (hm : m.wf) (a b : Nat) (v : Byte) :
    (m.write a v).read b = if b = a then v else m.read b := by
  induction m with
  | nil =>
    simp only [Memory.write]
    split_ifs with h e e <;> simp only [Memory.read]
    · exact h.symm
    · rw [if_pos e.symm]
    · rw [if_neg (Ne.symm e)]
  | cons c m ih =>
    obtain ⟨hlt, -, hwf⟩ := Memory.wf_cons.1 hm
    have hlow : ∀ x, x ≤ c.1 → Memory.read m x = 0 := fun x hx =>
      Memory.read_unlisted (fun d hd => by have := hlt d hd; omega)
    have ih := ih hwf
    simp only [Memory.write]
    rcases Nat.lt_trichotomy a c.1 with h | h | h
    · rw [if_pos h]
      split_ifs with hv e e <;> simp only [Memory.read]
      · rw [if_neg (by omega), hlow b (by omega), hv]
      · rw [if_pos e.symm]
      · rw [if_neg (Ne.symm e)]
    · rw [if_neg (by omega), if_pos h]
      split_ifs with hv e e <;> try simp only [Memory.read]
      · rw [hlow b (by omega), hv]
      · rw [if_neg (by omega)]
      · rw [if_pos e.symm]
      · rw [if_neg (Ne.symm e), if_neg (by omega)]
    · rw [if_neg (by omega), if_neg (by omega)]
      simp only [Memory.read, ih]
      split_ifs <;> first | rfl | omega

/-! ### Several bytes -/

theorem Memory.writeBytes_wf {m : Memory} (hm : m.wf) (a : Nat) (l : List Byte) : (m.writeBytes a l).wf := by
  induction l generalizing m a with
  | nil => exact hm
  | cons b l ih => exact ih (Memory.write_wf hm a b) (a + 1)

theorem Memory.writeBytes_below {m : Memory} {n a : Nat} {l : List Byte} (hm : m.below n) (ha : a + l.length ≤ n) :
    (m.writeBytes a l).below n := by
  induction l generalizing m a with
  | nil => exact hm
  | cons b l ih =>
    simp only [List.length_cons] at ha
    exact ih (Memory.write_below hm (by omega) b) (by omega)

/-- MemWrite: byte i of the list is read at a + i, and every other address reads as before (R14, R60). -/
theorem Memory.read_writeBytes {m : Memory} (hm : m.wf) (a b : Nat) (l : List Byte) :
    (m.writeBytes a l).read b = if a ≤ b ∧ b < a + l.length then l.getD (b - a) 0 else m.read b := by
  induction l generalizing m a with
  | nil => rw [if_neg (fun h => by have := h.1; have := h.2; simp at this; omega)]; rfl
  | cons x l ih =>
    rw [Memory.writeBytes, ih (Memory.write_wf hm a x), Memory.read_write hm]
    simp only [List.length_cons]
    rcases Nat.lt_trichotomy b a with h | h | h
    · rw [if_neg (by omega), if_neg (by omega), if_neg (by omega)]
    · subst h; rw [if_neg (by omega), if_pos rfl, if_pos (by omega), Nat.sub_self]; rfl
    · rw [if_neg (c := b = a) (by omega)]
      obtain ⟨k, rfl⟩ : ∃ k, b = a + 1 + k := ⟨b - a - 1, by omega⟩
      rw [show a + 1 + k - (a + 1) = k by omega, show a + 1 + k - a = k + 1 by omega]
      simp only [List.getD_cons_succ]
      split_ifs <;> first | rfl | omega

@[simp] theorem Memory.length_readBytes (m : Memory) (a n : Nat) : (m.readBytes a n).length = n := by
  unfold Memory.readBytes; simp

@[simp] theorem Memory.getElem?_readBytes {m : Memory} {a n i : Nat} (hi : i < n) :
    (m.readBytes a n)[i]? = some (m.read (a + i)) := by
  unfold Memory.readBytes; simp [hi]

/-- Equal contents are equal data. -/
theorem Memory.ext_read {m m' : Memory} (hm : m.wf) (hm' : m'.wf) (h : ∀ a, m.read a = m'.read a) : m = m' := by
  induction m generalizing m' with
  | nil =>
    match m' with
    | [] => rfl
    | c :: m' =>
      exact absurd (h c.1).symm (by simpa [Memory.read] using (Memory.wf_cons.1 hm').2.1)
  | cons c m ih =>
    obtain ⟨hlt, hne, hwf⟩ := Memory.wf_cons.1 hm
    match m' with
    | [] => exact absurd (h c.1) (by simpa [Memory.read] using hne)
    | d :: m' =>
      obtain ⟨hlt', hne', hwf'⟩ := Memory.wf_cons.1 hm'
      have low : ∀ x, x ≤ c.1 → Memory.read m x = 0 := fun x hx =>
        Memory.read_unlisted (fun e he => by have := hlt e he; omega)
      have low' : ∀ x, x ≤ d.1 → Memory.read m' x = 0 := fun x hx =>
        Memory.read_unlisted (fun e he => by have := hlt' e he; omega)
      have hc := h c.1
      have hd := h d.1
      simp only [Memory.read, if_true] at hc hd
      have key : c.1 = d.1 := by
        rcases Nat.lt_trichotomy c.1 d.1 with e | e | e
        · rw [if_neg (by omega), low' _ (by omega)] at hc; exact absurd hc hne
        · exact e
        · rw [if_neg (by omega), low _ (by omega)] at hd; exact absurd hd.symm hne'
      rw [if_pos key.symm] at hc
      have tails : m = m' := by
        refine ih hwf hwf' (fun a => ?_)
        have ha := h a
        simp only [Memory.read] at ha
        by_cases e : c.1 = a
        · rw [low a (by omega), low' a (by omega)]
        · rwa [if_neg e, if_neg (by omega)] at ha
      rw [tails, show c = d from Prod.ext key hc]

end Sys2Proof.Machine
end

