-- ==== Sys2Proof/Laws/Ops.lean ====
section
/-! SUPPORT. What the prologue and the shared operations can do, said once: where they answer, and every case of a next
state. -/

namespace Sys2Proof.Machine

theorem mapNext_eq_next {f : State → State} {o : Result} {t : State} :
    mapNext f o = .next t ↔ ∃ s, o = .next s ∧ f s = t := by
  cases o <;> simp [mapNext]

theorem mapNext_eq_fault {f : State → State} {o : Result} {r : Fault} : mapNext f o = .fault r ↔ o = .fault r := by
  cases o <;> simp [mapNext]

theorem mapNext_eq_refused {f : State → State} {o : Result} {r : Refusal} : mapNext f o = .refused r ↔ o = .refused r := by
  cases o <;> simp [mapNext]

section
variable {i : Instr} {h : Handle} {body : State → Result} {s t : State} {o : Result}

/-! ### Admission -/

theorem whenAdmitted_idle (hp : s.port = .idle) : whenAdmitted i body s = body (s.received i) := if_pos hp

theorem whenAdmitted_held (hp : s.port ≠ .idle) : whenAdmitted i body s = .next s := if_neg hp

/-! ### CLOSE, WRITE, READ and CTRL -/

/-- The transaction passes the prologue. -/
theorem onHandle_ready (hr : s.ready h) : onHandle i h body s = body (s.received i) := by
  obtain ⟨hp, hb, hw⟩ := hr
  rw [onHandle, whenAdmitted_idle hp, checkHandle, if_pos (by simpa using hb), if_neg (by simpa using hw)]

theorem onHandle_held (hp : s.port ≠ .idle) : onHandle i h body s = .next s := whenAdmitted_held hp

theorem onHandle_badHandle (hp : s.port = .idle) (hb : s.bound h = false) :
    onHandle i h body s = .next ((s.received i).raise .badHandle h) := by
  rw [onHandle, whenAdmitted_idle hp, checkHandle, if_neg (by simpa using hb)]

theorem onHandle_busy (hp : s.port = .idle) (hb : s.bound h = true) (hw : s.waiting h = true) :
    onHandle i h body s = .next ((s.received i).raise .busy h) := by
  rw [onHandle, whenAdmitted_idle hp, checkHandle, if_pos (by simpa using hb), if_pos (by simpa using hw)]

/-- Everything that a transaction on a handle can answer. -/
theorem onHandle_cases (he : onHandle i h body s = o) :
    (s.port ≠ .idle ∧ o = .next s)
    ∨ (s.port = .idle ∧ s.bound h = false ∧ o = .next ((s.received i).raise .badHandle h))
    ∨ (s.port = .idle ∧ s.bound h = true ∧ s.waiting h = true ∧ o = .next ((s.received i).raise .busy h))
    ∨ (s.ready h ∧ body (s.received i) = o) := by
  by_cases hp : s.port = .idle
  · cases hb : s.bound h
    · exact .inr (.inl ⟨hp, rfl, he ▸ onHandle_badHandle hp hb⟩)
    · cases hw : s.waiting h
      · exact .inr (.inr (.inr ⟨⟨hp, hb, hw⟩, he ▸ (onHandle_ready ⟨hp, hb, hw⟩).symm⟩))
      · exact .inr (.inr (.inl ⟨hp, rfl, rfl, he ▸ onHandle_busy hp hb hw⟩))
  · exact .inl ⟨hp, he ▸ onHandle_held hp⟩

/-! ### CANCEL -/

theorem onCancel_bound (hb : s.bound h = true) : onCancel i h body s = body (s.received i) := if_pos hb

theorem onCancel_badHandle (hb : s.bound h = false) :
    onCancel i h body s = .next ((s.received i).raise .badHandle h) :=
  if_neg (by simp [hb])

/-! ### CTRL -/

/-- Everything that a control command can answer after the prologue, in the order of R202's checks. -/
theorem ctrlBody_cases {size len : Half} {x : Bool} {f : State → State} (he : ctrlBody size h len x f s = o) :
    (len ≠ size ∧ o = .next (s.raise .badLen h))
    ∨ (len = size ∧ x = true ∧ o = .next (s.raise .fault h))
    ∨ (len = size ∧ x = false ∧ o = .next ((f s).respond .ok h 0 [])) := by
  unfold ctrlBody at he
  split_ifs at he with h1 h2
  · exact .inl ⟨h1, he.symm⟩
  · exact .inr (.inl ⟨not_not.1 h1, h2, he.symm⟩)
  · exact .inr (.inr ⟨not_not.1 h1, by simpa using h2, he.symm⟩)

/-! ### ILLEGAL requests -/

theorem illegalRequest_idle {w : Word} (hp : s.port = .idle) :
    illegalRequest w s = .next ((s.emit (.req w)).raise .illegal (headerHandle w)) := if_pos hp

theorem illegalRequest_held {w : Word} (hp : s.port ≠ .idle) : illegalRequest w s = .next s := if_neg hp

end

/-! ### The frame buffer as State holds it -/

theorem State.memRead_eq_some {s : State} {a n : Nat} {d : List Byte} :
    s.memRead a n = some d ↔ a + n ≤ s.fbBytes ∧ d = s.mem.readBytes a n := by
  unfold State.memRead; split_ifs with h <;> simp [h, eq_comm]

theorem State.memWrite_eq_some {s t : State} {a n : Nat} {l : List Byte} :
    s.memWrite a n l = some t ↔ a + n ≤ s.fbBytes ∧ t = { s with mem := s.mem.writeBytes a (l.take n) } := by
  unfold State.memWrite; split_ifs with h <;> simp [h, eq_comm]

/-- A WRITE's transfer stays within the frame (R64). -/
theorem writeAddr_add_transferLen {s : State} {h : Handle} (hp : (s.slot h).pos ≤ s.fbBytes) (len : Half) :
    writeAddr s h + transferLen s len (writeAddr s h) ≤ s.fbBytes := by
  unfold writeAddr transferLen; split_ifs <;> omega

/-- A READ's transfer stays within the frame (R64). -/
theorem pos_add_transferLen {s : State} {h : Handle} (hp : (s.slot h).pos ≤ s.fbBytes) (len : Half) :
    (s.slot h).pos + transferLen s len (s.slot h).pos ≤ s.fbBytes := by
  unfold transferLen; omega

theorem transferLen_lt {s : State} (len : Half) (a : Nat) : transferLen s len a < 2 ^ 16 := by
  have := len.isLt; unfold transferLen; omega

/-! ### Responses (R97, R104) -/

@[simp] theorem respStatus_responseWord (st : Status) (h : Handle) (n : Nat) :
    respStatus (responseWord st h n) = statusCode st := by
  ext i hi
  unfold respStatus responseWord
  simp only [BitVec.getElem_extractLsb', BitVec.getLsbD_append]
  interval_cases i <;> simp

@[simp] theorem respHandle_responseWord (st : Status) (h : Handle) (n : Nat) : respHandle (responseWord st h n) = h := by
  ext i hi
  unfold respHandle responseWord
  simp only [BitVec.getElem_extractLsb', BitVec.getLsbD_append]
  interval_cases i <;> simp

/-- COUNT is the number given, which is below 2^16 for every transfer. -/
theorem respCount_responseWord (st : Status) (h : Handle) {n : Nat} (hn : n < 2 ^ 16) :
    respCount (responseWord st h n) = n := by
  have : (responseWord st h n).extractLsb' 0 16 = BitVec.ofNat 16 n := by
    ext i hi
    unfold responseWord
    simp only [BitVec.getElem_extractLsb', BitVec.getLsbD_append]
    simp [hi, ← BitVec.getLsbD_eq_getElem]
  rw [respCount, this, BitVec.toNat_ofNat, Nat.mod_eq_of_lt hn]

/-- The bytes of a READ's response, which carries n data bytes, are framed as it (R104). -/
theorem frameResponse_read {request : Word} (hr : headerOp request = 4) (h : Handle) {data : List Byte}
    (hn : data.length < 2 ^ 16) (rest : List Byte) :
    frameResponse request (respBytes (responseWord .ok h data.length) data ++ rest)
      = some ((responseWord .ok h data.length, data), rest) :=
  frameResponse_respBytes (by rw [respDataLen, if_pos hr, respCount_responseWord _ _ hn]) rest

/-- A response of COUNT 0, and one to a request other than a READ, is its word alone (R104). -/
theorem frameResponse_word {request w : Word} (hr : headerOp request = 4 → respCount w = 0) (rest : List Byte) :
    frameResponse request (respBytes w [] ++ rest) = some ((w, []), rest) :=
  frameResponse_respBytes (by unfold respDataLen; split_ifs with h <;> simp [hr, h]) rest

/-! ### OPEN -/

theorem freeHandle_some {s : State} {h : Handle} (he : freeHandle s = some h) :
    h ∈ s.cfg.handleNumbers ∧ (s.slot h).isOpen = false := by
  unfold freeHandle at he
  exact ⟨List.mem_of_find?_eq_some he, by simpa using List.find?_some he⟩

/-- The handle numbers are those below MAX_HANDLES. -/
theorem mem_handleNumbers {c : Config} {h : Handle} : h ∈ c.handleNumbers ↔ h.toNat < c.maxHandles := by
  have all : ∀ g : Handle, g ∈ (List.range 16).map (BitVec.ofNat 4) := by decide
  unfold Config.handleNumbers
  simp only [List.mem_filter, all h, true_and, decide_eq_true_eq]

theorem handleNumbers_nodup (c : Config) : c.handleNumbers.Nodup :=
  List.Nodup.filter _ (by decide)

end Sys2Proof.Machine
end

