-- ==== Sys2Proof/Laws/PerInstr.lean ====
section
/-! SUPPORT. What holds of every transaction as syntax, one lemma per constructor. -/

namespace Sys2Proof.Laws.Framed

/-- The request that encodes a well-formed transaction carries exactly PLEN payload bytes (R90, R96), and its HANDLE field is
the handle the transaction names (R93). -/
def Statement (i : Instr) : Prop :=
  i.wf = true → (encode i).framed = true ∧ headerHandle i.header = i.handle

theorem openHandle : Statement .openHandle := fun _ => by decide

theorem close (h : Handle) : Statement (.close h) := fun _ => by
  simp [encode, Request.framed, plen, Instr.header, Instr.payload, Instr.handle]

theorem write (h : Handle) (len : Half) (p : List Byte) (x : Bool) : Statement (.write h len p x) := fun hw => by
  have : p.length = len.toNat := by simpa [Instr.wf] using hw
  simp [encode, Request.framed, plen, Instr.header, Instr.payload, Instr.handle, this]

theorem read (h : Handle) (nb : Bool) (len : Half) (x : Bool) : Statement (.read h nb len x) := fun _ => by
  simp [encode, Request.framed, plen, Instr.header, Instr.payload, Instr.handle]

theorem setLatchDelay (h : Handle) (len : Half) (p : List Byte) (x : Bool) : Statement (.setLatchDelay h len p x) := fun hw => by
  have : p.length = len.toNat := by simpa [Instr.wf] using hw
  simp [encode, Request.framed, plen, Instr.header, Instr.payload, Instr.handle, this]

theorem setClockDelay (h : Handle) (len : Half) (p : List Byte) (x : Bool) : Statement (.setClockDelay h len p x) := fun hw => by
  have : p.length = len.toNat := by simpa [Instr.wf] using hw
  simp [encode, Request.framed, plen, Instr.header, Instr.payload, Instr.handle, this]

theorem setGamma (h : Handle) (len : Half) (p : List Byte) (x : Bool) : Statement (.setGamma h len p x) := fun hw => by
  have : p.length = len.toNat := by simpa [Instr.wf] using hw
  simp [encode, Request.framed, plen, Instr.header, Instr.payload, Instr.handle, this]

theorem setBlank (h : Handle) (len : Half) (p : List Byte) (x : Bool) : Statement (.setBlank h len p x) := fun hw => by
  have : p.length = len.toNat := by simpa [Instr.wf] using hw
  simp [encode, Request.framed, plen, Instr.header, Instr.payload, Instr.handle, this]

theorem ctrlUnsupported4To7 (h : Handle) (c : BitVec 2) (len : Half) (p : List Byte) (x : Bool) :
    Statement (.ctrlUnsupported4To7 h c len p x) := fun hw => by
  have : p.length = len.toNat := by simpa [Instr.wf] using hw
  simp [encode, Request.framed, plen, Instr.header, Instr.payload, Instr.handle, this]

theorem ctrlUnsupported8To15 (h : Handle) (c : BitVec 3) (len : Half) (p : List Byte) (x : Bool) :
    Statement (.ctrlUnsupported8To15 h c len p x) := fun hw => by
  have : p.length = len.toNat := by simpa [Instr.wf] using hw
  simp [encode, Request.framed, plen, Instr.header, Instr.payload, Instr.handle, this]

theorem cancel (h : Handle) : Statement (.cancel h) := fun _ => by
  simp [encode, Request.framed, plen, Instr.header, Instr.payload, Instr.handle]

end Sys2Proof.Laws.Framed
end

