-- ==== Sys2Proof/Laws/Serializer.lean ====
section
/-! SUPPORT. What a serializer step changes, and where an emission's steps begin and end. -/

namespace Sys2Proof.Machine

section
variable (k : Nat) (s : State) (st : SerStep)

@[simp] theorem perform_cfg : (perform k s st).cfg = s.cfg := by cases st <;> rfl
@[simp] theorem perform_slots : (perform k s st).slots = s.slots := by cases st <;> rfl
@[simp] theorem perform_mem : (perform k s st).mem = s.mem := by cases st <;> rfl
@[simp] theorem perform_cnt : (perform k s st).cnt = s.cnt := by cases st <;> rfl
@[simp] theorem perform_gt : (perform k s st).gt = s.gt := by cases st <;> rfl
@[simp] theorem perform_tClk : (perform k s st).tClk = s.tClk := by cases st <;> rfl
@[simp] theorem perform_tLat : (perform k s st).tLat = s.tLat := by cases st <;> rfl
@[simp] theorem perform_blankForce : (perform k s st).blankForce = s.blankForce := by cases st <;> rfl
@[simp] theorem perform_port : (perform k s st).port = s.port := by cases st <;> rfl
@[simp] theorem perform_clients : (perform k s st).clients = s.clients := by cases st <;> rfl
@[simp] theorem perform_irq : (perform k s st).irq = s.irq := by cases st <;> rfl
@[simp] theorem perform_sched : (perform k s st).sched = s.sched := by cases st <;> rfl
@[simp] theorem perform_slot (g : Handle) : (perform k s st).slot g = s.slot g := by cases st <;> rfl
@[simp] theorem perform_fbBytes : (perform k s st).fbBytes = s.fbBytes := by cases st <;> rfl
@[simp] theorem perform_bound (g : Handle) : (perform k s st).bound g = s.bound g := by cases st <;> rfl
@[simp] theorem perform_waiting (g : Handle) : (perform k s st).waiting g = s.waiting g := by cases st <;> rfl
@[simp] theorem perform_outstanding (g : Handle) : (perform k s st).outstanding g = s.outstanding g := by cases st <;> rfl

/-- Each step appends exactly one event (R180). -/
@[simp] theorem perform_trace : (perform k s st).trace = s.trace ++ [stepEvent s st] := by cases st <;> rfl

/-- SER after a step (R25): idle after the last, the next index after any other. -/
theorem perform_ser : (perform k s st).ser = if st = .finish then .idle else .run (k + 1) := by cases st <;> rfl

theorem perform_blankSer : (perform k s st).blankSer = match st with
    | .blankOn => true
    | .finish => false
    | _ => s.blankSer := by cases st <;> rfl

theorem perform_dout : (perform k s st).dout = match st with
    | .dout w => s.cfg.dlevel w
    | _ => s.dout := by cases st <;> rfl

theorem perform_clk : (perform k s st).clk = match st with
    | .clk a => s.cfg.clkLevel a
    | _ => s.clk := by cases st <;> rfl

theorem perform_lat : (perform k s st).lat = match st with
    | .lat a => s.cfg.latLevel a
    | _ => s.lat := by cases st <;> rfl

theorem perform_blank : (perform k s st).blank = match st with
    | .blankOn => s.cfg.blankLevel true
    | .finish => s.cfg.blankLevel s.blankForce
    | _ => s.blank := by cases st <;> rfl

end

/-- Every step of an emission by its index (R180): the blank, the five steps of each pulse, the latch, the end. -/
theorem emissionAt_cases (s : State) (k : Nat) :
    (k = 0 ∧ emissionAt s k = some .blankOn)
    ∨ (∃ q r, q < s.cfg.pulses ∧ r < 5 ∧ k = 1 + 5 * q + r
        ∧ emissionAt s k = (pulseSteps (dataWord s (s.cfg.ccAt (q / s.cfg.nativeBits)) (q % s.cfg.nativeBits)))[r]?)
    ∨ (∃ r, r < 5 ∧ k = 1 + 5 * s.cfg.pulses + r ∧ emissionAt s k = (latchSteps ++ [.finish])[r]?)
    ∨ (s.cfg.emissionSteps ≤ k ∧ emissionAt s k = none) := by
  unfold emissionAt
  by_cases h0 : k = 0
  · exact .inl ⟨h0, by simp [h0]⟩
  by_cases h1 : k ≤ 5 * s.cfg.pulses
  · refine .inr (.inl ⟨(k - 1) / 5, (k - 1) % 5, by omega, by omega, by omega, ?_⟩)
    simp only [if_neg h0, if_pos h1]
  · by_cases h2 : k < s.cfg.emissionSteps
    · unfold Config.emissionSteps at h2
      refine .inr (.inr (.inl ⟨k - (5 * s.cfg.pulses + 1), by omega, by omega, ?_⟩))
      simp only [if_neg h0, if_neg h1]
    · refine .inr (.inr (.inr ⟨by omega, ?_⟩))
      unfold Config.emissionSteps at h2
      simp only [if_neg h0, if_neg h1]
      exact List.getElem?_eq_none (by simp [latchSteps]; omega)

/-- There is a step k exactly for k < E (R187). -/
theorem emissionAt_isSome (s : State) (k : Nat) : (emissionAt s k).isSome = true ↔ k < s.cfg.emissionSteps := by
  rcases emissionAt_cases s k with ⟨h, e⟩ | ⟨q, r, hq, hr, h, e⟩ | ⟨r, hr, h, e⟩ | ⟨h, e⟩ <;> rw [e]
  · simp [h, Config.emissionSteps]
  · simp only [Config.emissionSteps, pulseSteps]
    constructor
    · intro; omega
    · intro; interval_cases r <;> rfl
  · simp only [Config.emissionSteps, latchSteps]
    constructor
    · intro; omega
    · intro; interval_cases r <;> rfl
  · simp; omega

/-- The last step, and only it, is the end (R184). -/
theorem emissionAt_eq_finish (s : State) (k : Nat) : emissionAt s k = some .finish ↔ k + 1 = s.cfg.emissionSteps := by
  rcases emissionAt_cases s k with ⟨h, e⟩ | ⟨q, r, hq, hr, h, e⟩ | ⟨r, hr, h, e⟩ | ⟨h, e⟩ <;> rw [e]
  · simp [h, Config.emissionSteps]
  · simp only [Config.emissionSteps, pulseSteps]
    constructor
    · intro hf; interval_cases r <;> simp at hf
    · intro; omega
  · simp only [Config.emissionSteps, latchSteps]
    constructor
    · intro hf; interval_cases r <;> simp_all
    · intro; have : r = 4 := by omega
      subst this; rfl
  · simp; omega

/-- The serializer steps exactly while SER indexes a step (R25, R180). -/
theorem serializerStep_eq_some {s t : State} :
    serializerStep s = some t ↔ ∃ k st, s.ser = .run k ∧ emissionAt s k = some st ∧ t = perform k s st := by
  unfold serializerStep
  cases hs : s.ser with
  | idle => simp
  | run k => simp [eq_comm]

end Sys2Proof.Machine
end

