-- ==== Sys2Proof/Laws/Synchronizer.lean ====
section
/-! SUPPORT. The release of the waiters and the frame-ready step, field by field. -/

namespace Sys2Proof.Machine

/-- What the release of waiters leaves as it is: everything but the slots and the trace. -/
structure SameButSlots (s t : State) : Prop where
  cfg : t.cfg = s.cfg
  mem : t.mem = s.mem
  cnt : t.cnt = s.cnt
  gt : t.gt = s.gt
  tClk : t.tClk = s.tClk
  tLat : t.tLat = s.tLat
  blankForce : t.blankForce = s.blankForce
  blankSer : t.blankSer = s.blankSer
  port : t.port = s.port
  ser : t.ser = s.ser
  dout : t.dout = s.dout
  clk : t.clk = s.clk
  lat : t.lat = s.lat
  blank : t.blank = s.blank
  clients : t.clients = s.clients
  irq : t.irq = s.irq
  sched : t.sched = s.sched

theorem SameButSlots.refl (s : State) : SameButSlots s s := by constructor <;> rfl

theorem SameButSlots.trans {s t u : State} (h : SameButSlots s t) (k : SameButSlots t u) : SameButSlots s u := by
  obtain ⟨h1, h2, h3, h4, h5, h6, h7, h8, h9, h10, h11, h12, h13, h14, h15, h16, h17⟩ := h
  obtain ⟨k1, k2, k3, k4, k5, k6, k7, k8, k9, k10, k11, k12, k13, k14, k15, k16, k17⟩ := k
  constructor <;> simp only [*]

theorem SameButSlots.fbBytes {s t : State} (h : SameButSlots s t) : t.fbBytes = s.fbBytes := by
  simp only [State.fbBytes, h.cfg]

theorem SameButSlots.waiterEvent {s t : State} (h : SameButSlots s t) (g : Handle) (w : Waiter) :
    waiterEvent t g w = Machine.waiterEvent s g w := by
  simp only [Machine.waiterEvent, h.fbBytes, h.mem]

theorem SameButSlots.completedSlot {s t : State} (h : SameButSlots s t) (v : Slot) :
    completedSlot t v = Machine.completedSlot s v := by
  simp only [Machine.completedSlot, h.fbBytes]

/-- One handle's turn. -/
theorem releaseHandle_spec (s : State) (h : Handle) :
    SameButSlots s (releaseHandle s h)
    ∧ (∀ g, (releaseHandle s h).slot g = if g = h then completedSlot s (s.slot h) else s.slot g)
    ∧ (releaseHandle s h).trace = s.trace ++ ((s.slot h).pend.map (waiterEvent s h)).toList := by
  unfold releaseHandle completedSlot
  cases hp : (s.slot h).pend with
  | none => exact ⟨.refl s, fun g => by split_ifs with e <;> simp [e], by simp⟩
  | some w =>
    simp only [completeWaiter]
    cases hx : w.xferErr
    · refine ⟨by constructor <;> rfl, fun g => ?_, by simp [waiterEvent, hx]⟩
      by_cases e : g = h
      · subst e; simp
      · simp [e, State.slot_setPos, State.slot_setPend]
    · refine ⟨by constructor <;> rfl, fun g => ?_, by simp [waiterEvent, hx]⟩
      by_cases e : g = h
      · subst e; simp
      · simp [e, State.slot_setPend]

/-- The turns of any handles, each once. -/
theorem releaseHandles_spec (hs : List Handle) (hn : hs.Nodup) (s : State) :
    SameButSlots s (hs.foldl releaseHandle s)
    ∧ (∀ g, (hs.foldl releaseHandle s).slot g = if g ∈ hs then completedSlot s (s.slot g) else s.slot g)
    ∧ (hs.foldl releaseHandle s).trace = s.trace ++ hs.filterMap (fun h => (s.slot h).pend.map (waiterEvent s h)) := by
  induction hs generalizing s with
  | nil => exact ⟨.refl s, by simp, by simp⟩
  | cons h hs ih =>
    obtain ⟨hh, hn⟩ := List.nodup_cons.1 hn
    obtain ⟨same, slots, trace⟩ := releaseHandle_spec s h
    obtain ⟨same', slots', trace'⟩ := ih hn (releaseHandle s h)
    refine ⟨same.trans same', fun g => ?_, ?_⟩
    · rw [List.foldl_cons, slots', slots, same.completedSlot]
      by_cases e : g = h
      · subst e; simp [hh]
      · simp [e]
    · rw [List.foldl_cons, trace', trace, List.append_assoc]
      congr 1
      have : hs.filterMap (fun g => ((releaseHandle s h).slot g).pend.map (waiterEvent (releaseHandle s h) g))
          = hs.filterMap (fun g => (s.slot g).pend.map (waiterEvent s g)) := by
        refine List.filterMap_congr (fun g hg => ?_)
        have e : g ≠ h := fun e => hh (by rwa [← e])
        rw [slots g, if_neg e]
        congr 1
        funext w; exact same.waiterEvent g w
      rw [this]
      cases hp : (s.slot h).pend <;> simp [hp]

/-- The release of the waiters (R153, R154). -/
theorem releaseWaiters_spec (s : State) :
    SameButSlots s (releaseWaiters s)
    ∧ (∀ g, (releaseWaiters s).slot g = if g.toNat < s.cfg.maxHandles then completedSlot s (s.slot g) else s.slot g)
    ∧ (releaseWaiters s).trace = s.trace ++ waiterEvents s := by
  obtain ⟨same, slots, trace⟩ := releaseHandles_spec s.cfg.handleNumbers (handleNumbers_nodup _) s
  exact ⟨same, fun g => by rw [releaseWaiters, slots]; simp only [mem_handleNumbers], trace⟩

/-- The frame-ready step is taken exactly when the port is held and the serializer is idle (R153). -/
theorem frameReadyStep_eq_some {s t : State} :
    frameReadyStep s = some t ↔ ∃ h n, s.port = .held h n ∧ s.ser = .idle ∧ t = frameReady h n s := by
  unfold frameReadyStep
  constructor
  · intro he
    split at he
    · next h n hp hs => exact ⟨h, n, hp, hs, by simpa using he.symm⟩
    · exact absurd he (by simp)
  · rintro ⟨h, n, hp, hs, rfl⟩
    simp [hp, hs]

end Sys2Proof.Machine
end

