-- ==== Sys2Proof/Laws/Step.lean ====
section
/-! SUPPORT. What a step can do, said once. -/

namespace Sys2Proof.Machine

/-- A step that answers a next state: nothing could move, or one agent took its step. -/
theorem step_cases {s t : State} (h : step s = .next t) :
    s.cfg.wf = true
    ∧ ((nextChoice s = none ∧ t = s)
      ∨ ∃ c u, nextChoice s = some c ∧ agentStep c { s with sched := s.sched.tail } = .next u ∧ t = settle u) := by
  unfold step deviceStep at h
  split_ifs at h with hw
  refine ⟨hw, ?_⟩
  cases hc : nextChoice s with
  | none => simp only [hc] at h; exact .inl ⟨rfl, by simpa using h.symm⟩
  | some c =>
    simp only [hc] at h
    obtain ⟨u, hu, rfl⟩ := mapNext_eq_next.1 h
    exact .inr ⟨c, u, rfl, hu, rfl⟩

/-- The step of the agent that is next (R9). -/
theorem step_of_choice {s : State} {c : Choice} (hw : s.cfg.wf = true) (hc : nextChoice s = some c) :
    step s = mapNext settle (agentStep c { s with sched := s.sched.tail }) := by
  simp only [step, deviceStep, hw, hc, if_true]

/-- A client's step: nothing, or the request it presents is run. -/
theorem clientStep_cases {k : Nat} {s u : State} (h : clientStep k s = .next u) :
    u = s
    ∨ ∃ c r v, s.clients[k]? = some c ∧ c.presents = some r ∧ admissible s r = true ∧ r.framed = true
        ∧ runRequest r (s.takeRequest k) = .next v ∧ u = noteWait k (headerHandle r.header) s v := by
  unfold clientStep at h
  cases hr : s.clients[k]?.bind Client.presents with
  | none => simp only [hr] at h; exact .inl (by simpa using h.symm)
  | some r =>
    simp only [hr] at h
    obtain ⟨c, hc, hp⟩ := Option.bind_eq_some_iff.1 hr
    split_ifs at h with ha hf
    · obtain ⟨v, hv, rfl⟩ := mapNext_eq_next.1 h
      exact .inr ⟨c, r, v, hc, hp, ha, hf, hv, rfl⟩
    · exact .inl (by simpa using h.symm)

/-- A request at the port: a transaction, or ILLEGAL. -/
theorem runRequest_cases {r : Request} {s : State} {o : Result} (h : runRequest r s = o) :
    (∃ i, decodeRequest r = .ok i ∧ exec i s = o) ∨ (∃ e, decodeRequest r = .error e ∧ illegalRequest r.header s = o) := by
  unfold runRequest at h
  cases hd : decodeRequest r with
  | ok i => exact .inl ⟨i, rfl, by simpa [hd] using h⟩
  | error e => exact .inr ⟨e, rfl, by simpa [hd] using h⟩

/-- The interrupt source's step (R232). -/
theorem interruptStep_cases {s u : State} (h : interruptStep s = .next u) :
    u = s ∨ ∃ g rest, s.irq = g :: rest ∧ exec (.cancel g) { s with irq := rest } = .next u := by
  unfold interruptStep at h
  cases hi : s.irq with
  | nil => simp only [hi] at h; exact .inl (by simpa using h.symm)
  | cons g rest => simp only [hi] at h; exact .inr ⟨g, rest, rfl, h⟩

end Sys2Proof.Machine
end

