-- ==== Sys2Proof/Tests/Slice0.lean ====
section
/-! SUPPORT. Small tests, with expected results from spec/95_test_vectors.md or by hand from the rules, and for every
obligation with hypotheses a witness that meets them. -/

namespace Sys2Proof.Tests

open Sys2Proof.Machine

/-! ### Configurations and states -/

/-- Configuration TINY (spec/95_test_vectors.md section 0). -/
def tiny : Config where
  rows := 2
  cols := 1
  gammaBits := 4
  nativeBits := 6
  doutW := 2
  wiring := [1, 0]
  rotate := false
  dataActiveLow := false
  clkActiveLow := false
  latActiveLow := false
  blankActiveLow := false
  cntW := 32
  maxHandles := 16
  gtReset := defaultGamma 4
  tClkResetNs := 10
  tLatResetNs := 20

/-- TINY after reset with handles 0 and 1 open. -/
def two : State := ((State.resetWith tiny).setSlot 0 ⟨true, 0, none⟩).setSlot 1 ⟨true, 0, none⟩

/-- The frame FT (spec/95_test_vectors.md section 0) in memory. -/
def ftMem : Memory := [(0, 0x11), (1, 0xFF), (3, 0x22), (4, 0x88), (5, 0x80)]

/-- `two` with a READ 1, 6 pending. -/
def waiting : State := two.setPend 1 (some ⟨0, 6, false⟩)

/-- `waiting` just after handle 0 has committed FT: the emission is about to begin. -/
def emitting : State := { waiting with mem := ftMem, port := .held 0 6, ser := .run 0 }

/-- `emitting` after the last step of the emission: the frame-ready step is next. -/
def emitted : State := { emitting with ser := .idle, blankSer := false, blank := false }

/-- `two` with one client that presents `r` and is chosen. -/
def asking (r : Request) : State := { two with clients := [⟨[r], none⟩], sched := [.client 0] }

/-- A field of the next state, if there is one. -/
def next? {α : Type} (f : State → α) : Result → Option α
  | .next s => some (f s)
  | .fault _ => none
  | .refused _ => none

/-- The STATUS and COUNT words of the responses in a trace. -/
def responses (s : State) : List Word := s.trace.filterMap (fun e => match e with | .resp w _ => some w | _ => none)

/-- The words that a serializer run puts on DOUT. -/
def doutWords (s : State) : List DoutWord :=
  s.trace.filterMap (fun e => match e with | .pinSet (.dout w) => some w | _ => none)

/-! ### WellFormed (R12, R90, R96) -/

theorem test_wf_tiny : tiny.wf = true := by decide
theorem test_wf_defaults : (Config.defaults 0 0).wf = true := by decide
theorem test_wf_payload_length :
    Instr.wf (.write 0 2 [1] false) = false ∧ Instr.wf (.setLatchDelay 0 4 [1] false) = false
    ∧ Instr.wf (.setClockDelay 0 4 [1] false) = false ∧ Instr.wf (.setGamma 0 4 [1] false) = false
    ∧ Instr.wf (.setBlank 0 4 [1] false) = false ∧ Instr.wf (.ctrlUnsupported4To7 0 0 4 [1] false) = false
    ∧ Instr.wf (.ctrlUnsupported8To15 0 0 4 [1] false) = false := by decide
theorem test_wf_rows : Config.wf { tiny with rows := 0, wiring := [] } = false := by decide
theorem test_wf_cols : Config.wf { tiny with cols := 0 } = false := by decide
theorem test_wf_gammaBits :
    Config.wf { tiny with gammaBits := 0 } = false ∧ Config.wf { tiny with gammaBits := 17, nativeBits := 17 } = false := by
  decide
theorem test_wf_nativeBits :
    Config.wf { tiny with nativeBits := 3 } = false ∧ Config.wf { tiny with nativeBits := 65536 } = false := by decide
theorem test_wf_doutW :
    Config.wf { tiny with doutW := 0 } = false ∧ Config.wf { tiny with doutW := 65 } = false := by decide
theorem test_wf_wiring :
    Config.wf { tiny with wiring := [1] } = false ∧ Config.wf { tiny with wiring := [1, 1] } = false
    ∧ Config.wf { tiny with wiring := [2, 0] } = false := by decide
theorem test_wf_cntW : Config.wf { tiny with cntW := 0 } = false := by decide
theorem test_wf_maxHandles :
    Config.wf { tiny with maxHandles := 0 } = false ∧ Config.wf { tiny with maxHandles := 17 } = false := by decide

/-! ### Decoding: a word of every constructor, written out from R91 and R105 -/

theorem test_decode_open : decodeTableWord 32 0b00010000000000000000000000000000 = some .openHandle := by decide
theorem test_decode_close : decodeTableWord 32 0b00101010000000000000000000000000 = some (.close 10) := by decide
theorem test_decode_write :
    decodeBytes false [0x02, 0x00, 0x00, 0x31, 0x07, 0x08, 0x09] = .ok (.write 1 2 [7, 8] false, [9]) := by decide
theorem test_decode_read : decodeTableWord 32 0b01000010100000000000000001100100 = some (.read 2 true 100 false) := by decide
theorem test_decode_setLatchDelay :
    decodeBytes true [0x01, 0x00, 0x00, 0x50, 0xF4] = .ok (.setLatchDelay 0 1 [0xF4] true, []) := by decide
theorem test_decode_setClockDelay :
    decodeBytes false [0x01, 0x00, 0x01, 0x53, 0xD0] = .ok (.setClockDelay 3 1 [0xD0] false, []) := by decide
theorem test_decode_setGamma :
    decodeBytes false [0x02, 0x00, 0x02, 0x5F, 0xC5, 0xAB] = .ok (.setGamma 15 2 [0xC5, 0xAB] false, []) := by decide
theorem test_decode_setBlank :
    decodeBytes false [0x01, 0x00, 0x03, 0x50, 0x01] = .ok (.setBlank 0 1 [1] false, []) := by decide
theorem test_decode_ctrlUnsupported4To7 :
    decodeTableWord 32 0b01010001011100000000000000000000 = none
    ∧ decodeTableWord 32 0b01010001000001110000000000000000 = some (.ctrlUnsupported4To7 1 3 0 [] false) := by decide
theorem test_decode_ctrlUnsupported8To15 :
    decodeTableWord 32 0b01010000000011010000000000000001 = some (.ctrlUnsupported8To15 0 5 1 [0] false) := by decide
theorem test_decode_cancel : decodeTableWord 32 0b01100001000000000000000000000000 = some (.cancel 1) := by decide

/-- The ILLEGAL rows of spec/95_test_vectors.md 2.8. -/
theorem test_decode_illegal :
    [0x00000000, 0x70000000, 0xF0000000, 0x7F000000, 0x10000001, 0x11000000, 0x30100001, 0x30800001, 0x30010001,
      0x20000001, 0x60000001, 0x50800004, 0x42010000].all (fun w => (decodeTableWord 32 w).isNone) = true := by decide

/-- A stream that ends inside a request holds no request yet (R104). -/
theorem test_decode_truncated :
    decodeBytes false [0x02, 0x00, 0x00, 0x30, 0x07] = .error .truncated
    ∧ decodeBytes false [0x02, 0x00, 0x00] = .error .truncated := by decide

/-! ### One step of each transaction -/

/-- V-OC-1, rows 1 and 5: the least free slot, with a fresh cursor. -/
theorem test_open :
    next? responses (exec .openHandle (two.setSlot 1 ⟨false, 5, none⟩)) = some [0x01000000]
    ∧ next? (fun t => t.slot 1) (exec .openHandle (two.setSlot 1 ⟨false, 5, none⟩)) = some ⟨true, 0, none⟩ := by decide

/-- V-OC-2, row 3: NOHANDLE with HANDLE 0. -/
theorem test_open_full :
    next? responses (exec .openHandle { two with cfg := { tiny with maxHandles := 2 } }) = some [0x70000000] := by decide

/-- V-OC-1, rows 3 and 4. -/
theorem test_close :
    next? responses (exec (.close 1) two) = some [0x01000000]
    ∧ next? responses (exec (.close 1) (two.setOpen 1 false)) = some [0x61000000] := by decide

/-- V-WR-5: a partial write commits with COUNT 2, and the last byte is discarded. -/
theorem test_write_partial :
    next? (fun t => (t.mem, t.port, t.ser, responses t)) (exec (.write 0 3 [7, 8, 9] false) (two.setPos 0 4))
      = some ([(4, 7), (5, 8)], .held 0 2, .run 0, []) := by decide

/-- V-WR-9: a write from the boundary starts at 0. -/
theorem test_write_from_boundary :
    next? (fun t => (t.mem, (t.slot 0).pos, responses t)) (exec (.write 0 2 [7, 8] false) (two.setPos 0 6))
      = some ([(0, 7), (1, 8)], 2, [0x00000002]) := by decide

/-- V-RD-3, row 4: cut short at the boundary. -/
theorem test_read_immediate :
    next? (fun t => ((t.slot 0).pos, t.trace.getLast?)) (exec (.read 0 false 10 false) ({ two with mem := ftMem }.setPos 0 3))
      = some (6, some (.resp 0x00000003 [0x22, 0x88, 0x80])) := by decide

/-- V-RD-1: a blocking READ records CNT and gets no response. -/
theorem test_read_blocking :
    next? (fun t => ((t.slot 1).pend, responses t)) (exec (.read 1 false 6 false) two) = some (some ⟨0, 6, false⟩, []) := by
  decide

/-- V-CTRL-1 and V-CTRL-4. -/
theorem test_setLatchDelay :
    next? (fun t => (t.tLat, t.tClk, responses t)) (exec (.setLatchDelay 0 4 [0xF4, 0x01, 0, 0] false) two)
      = some (500, 10, [0x00000000])
    ∧ next? (fun t => (t.tLat, responses t)) (exec (.setLatchDelay 0 3 [1, 2, 3] false) two) = some (20, [0x40000000]) := by
  decide

/-- V-CTRL-3. -/
theorem test_setClockDelay :
    next? (fun t => (t.tClk, t.tLat, responses t)) (exec (.setClockDelay 0 4 [0xD0, 0x07, 0, 0] false) two)
      = some (2000, 20, [0x00000000]) := by decide

/-- V-CTRL-5: 511 bytes are no table. -/
theorem test_setGamma_short :
    next? (fun t => (t.gt[255], responses t)) (exec (.setGamma 0 511 (List.replicate 511 0) false) two)
      = some (0xF, [0x40000000]) := by decide +kernel

/-- P3, step 9: every entry is 0xABC5, the low byte first. -/
theorem test_setGamma :
    next? (fun t => (t.gt[0], t.gt[255])) (exec (.setGamma 0 512 ((List.replicate 256 [0xC5, 0xAB]).flatten) false) two)
      = some (0xABC5, 0xABC5) := by decide +kernel

/-- V-CTRL-13, rows 1 and 5: releasing before the first emission leaves BLANK active; any nonzero value forces. -/
theorem test_setBlank :
    next? (fun t => (t.blankForce, t.blank)) (exec (.setBlank 0 4 [0, 0, 0, 0] false) two) = some (false, true)
    ∧ next? (fun t => (t.blankForce, t.blank)) (exec (.setBlank 0 4 [0, 1, 0, 0] false) { two with blankSer := false, blank := false })
      = some (true, true) := by decide

/-- V-CTRL-8: NOT_SUPPORTED comes before FAULT. -/
theorem test_ctrlUnsupported4To7 :
    next? responses (exec (.ctrlUnsupported4To7 0 3 4 [1, 2, 3, 4] true) two) = some [0x30000000] := by decide

/-- R202: CMD 8 with handle 1. -/
theorem test_ctrlUnsupported8To15 :
    next? responses (exec (.ctrlUnsupported8To15 1 0 0 [] false) two) = some [0x31000000] := by decide

/-- V-CN-1, during an emission as in V-CN-4: the READ's response, then the CANCEL's. -/
theorem test_cancel :
    next? (fun t => ((t.slot 1).pend, t.ser, responses t)) (exec (.cancel 1) emitting)
      = some (none, .run 0, [0x21000000, 0x01000001]) := by decide

/-- V-CN-2 and V-CN-3. -/
theorem test_cancel_nothing :
    next? responses (exec (.cancel 0) two) = some [0x00000000]
    ∧ next? responses (exec (.cancel 0) (two.setOpen 0 false)) = some [0x60000000] := by decide

/-- 2.8: BUSY and BADHANDLE by the prologue. -/
theorem test_prologue :
    next? responses (exec (.write 1 1 [9] false) waiting) = some [0x81000000]
    ∧ next? responses (exec (.ctrlUnsupported4To7 1 3 0 [] false) waiting) = some [0x81000000]
    ∧ next? responses (exec (.write 15 1 [9] false) waiting) = some [0x6F000000] := by decide

/-- 2.8: an ILLEGAL request echoes its HANDLE field. -/
theorem test_illegal : next? responses (runRequest ⟨0x7F000000, [], false⟩ two) = some [0x5F000000] := by decide

/-! ### The emission and the frame-ready step -/

/-- The default table for N = 12 at the indices of L1-9. -/
theorem test_defaultGamma :
    ((defaultGamma 12)[1], (defaultGamma 12)[2], (defaultGamma 12)[17], (defaultGamma 12)[128], (defaultGamma 12)[254],
      (defaultGamma 12)[255]) = (0x080, 0x040, 0x888, 0x101, 0xF7F, 0xFFF) := by decide +kernel

/-- TINY's derived tables (spec/95_test_vectors.md section 0). -/
theorem test_tiny_tables :
    (tiny.lrow 1, tiny.lrow 0, tiny.rowOff 1, tiny.rowOff 0, tiny.ccOrder, tiny.emissionSteps, tiny.pulses)
      = (0, 1, 0, 3, [2, 1, 0], 96, 18) := by decide

/-- V-SER-1: the 18 words of FT's emission. -/
theorem test_emission_words :
    doutWords (serializerRun 96 emitting)
      = [0, 0, 0, 1, 0, 0, 2, 2, 2, 3, 0, 0, 2, 1, 0, 0, 0, 0] := by decide +kernel

/-- V-SER-2, ROTATE = true. -/
theorem test_emission_rotated :
    doutWords (serializerRun 96 { emitting with cfg := { tiny with rotate := true } })
      = [1, 2, 0, 0, 0, 0, 1, 1, 1, 3, 0, 0, 0, 0, 0, 2, 0, 0] := by decide +kernel

/-- V-SER-2, DOUT_W = 4, WIRING = [3, 1], with DATA_ACTIVE_LOW = true besides: the inverted words of its first two groups. -/
theorem test_emission_wide :
    (doutWords (serializerRun 96 { emitting with
        cfg := { tiny with doutW := 4, wiring := [3, 1], dataActiveLow := true } })).take 12
      = [15, 15, 15, 13, 15, 15, 7, 7, 7, 5, 15, 15] := by decide +kernel

/-- V-SER-1: the first and the last events. -/
theorem test_emission_ends :
    (serializerRun 96 emitting).trace.take 6
        = [.pinSet (.blank true), .pinSet (.dout 0), .pinSet (.clk true), .delay 10, .pinSet (.clk false), .delay 10]
    ∧ (serializerRun 96 emitting).trace.drop 91
        = [.pinSet (.lat true), .delay 20, .pinSet (.lat false), .delay 20, .pinSet (.blank false)] := by decide +kernel

/-- V-RD-1: the trace ends with the waiter's response and then the WRITE's. -/
theorem test_frameReady :
    (frameReadyStep emitted).map (fun t => (t.trace, (t.slot 1).pos, (t.slot 1).pend, (t.slot 0).pos, t.port))
      = some ([.frameReady 1, .resp 0x01000006 [0x11, 0xFF, 0x00, 0x22, 0x88, 0x80], .resp 0x00000006 []], 6, none, 0, .idle) := by
  decide

/-- V-CN-4, step 6: CNT wraps from 1 to 0 with CNT_W = 1. -/
theorem test_frameReady_wraps :
    (frameReadyStep { emitted with cnt := 1, cfg := { tiny with cntW := 1 } }).map (fun t => t.cnt) = some 0 := by decide

/-- V-RD-6: XFER_ERR shows at completion, and the cursor stays 0. -/
theorem test_frameReady_fault :
    (frameReadyStep (emitted.setPend 1 (some ⟨0, 6, true⟩))).map (fun t => (responses t, (t.slot 1).pos))
      = some ([0x11000000, 0x00000006], 0) := by decide

/-- A request placed by withFetchWord is what the next step runs: OPEN as the first transaction after reset. -/
theorem test_withFetchWord :
    next? (fun t => (t.slot 0).isOpen) (step (State.reset.withFetchWord 32 0x10000000)) = some true := by decide +kernel

/-- R105's encodings, with the examples of R203 and R204. -/
theorem test_assemble :
    assemble .openLine false = ⟨0x10000000, [], false⟩ ∧ assemble (.close 1) false = ⟨0x21000000, [], false⟩
    ∧ assemble (.write 0 [9]) true = ⟨0x30000001, [9], true⟩ ∧ assemble (.read 1 6) false = ⟨0x41000006, [], false⟩
    ∧ assemble (.readNb 0 6) false = ⟨0x40800006, [], false⟩
    ∧ assemble (.setLatchDelay 0 500) false = ⟨0x50000004, [0xF4, 0x01, 0, 0], false⟩
    ∧ assemble (.setClockDelay 0 2000) false = ⟨0x50010004, [0xD0, 0x07, 0, 0], false⟩
    ∧ assemble (.setBlank 0 1) false = ⟨0x50030004, [1, 0, 0, 0], false⟩
    ∧ assemble (.ctrl 0 0 [1, 2, 3]) false = ⟨0x50000003, [1, 2, 3], false⟩
    ∧ assemble (.cancel 1) false = ⟨0x61000000, [], false⟩ := by decide

/-- V-CTRL-6, step 2: the header of a gamma table of zeros for handle 1. -/
theorem test_assemble_gamma : (assemble (.setGamma 1 (Vector.replicate 256 0)) false).header = 0x51020200 := by
  decide +kernel

/-- With FB_BYTES = 6 a frame is one WRITE, then the bytes that a COUNT of 4 left over, then nothing more (R106). -/
theorem test_writeFrame :
    writeFrame tiny 0 [1, 2, 3, 4, 5, 6] [] = [.write 0 6 [1, 2, 3, 4, 5, 6] false]
    ∧ writeFrame tiny 0 [1, 2, 3, 4, 5, 6] [0x00000004]
      = [.write 0 6 [1, 2, 3, 4, 5, 6] false, .write 0 2 [5, 6] false]
    ∧ writeFrame tiny 0 [1, 2, 3, 4, 5, 6] [0x00000004, 0x00000002]
      = [.write 0 6 [1, 2, 3, 4, 5, 6] false, .write 0 2 [5, 6] false]
    ∧ chunks 2 [1, 2, 3, 4, 5] = [[1, 2], [3, 4], [5]] := by decide

/-- READFRAME is one READ of 6 bytes; one that ends INTERRUPTED is followed by another (R106). -/
theorem test_readFrame :
    readFrame tiny 1 [0x01000006] = [.read 1 false 6 false]
    ∧ readFrame tiny 1 [0x21000000, 0x01000006] = [.read 1 false 6 false, .read 1 false 6 false] := by decide

/-- V-RD-3, rows 1 and 2, as bytes: the word little-endian, then COUNT data bytes for a READ and none for FAULT (R61, R104). -/
theorem test_response_bytes :
    respBytes 0x01000003 [7, 8, 9] = [0x03, 0x00, 0x00, 0x01, 7, 8, 9]
    ∧ frameResponse 0x41800003 [0x03, 0x00, 0x00, 0x01, 7, 8, 9, 0x55] = some ((0x01000003, [7, 8, 9]), [0x55])
    ∧ frameResponse 0x41800003 [0x00, 0x00, 0x00, 0x11, 0x55] = some ((0x11000000, []), [0x55])
    ∧ frameResponse 0x30000003 [0x03, 0x00, 0x00, 0x00, 0x55] = some ((0x00000003, []), [0x55])
    ∧ frameResponse 0x41800003 [0x03, 0x00, 0x00, 0x01, 7] = none := by decide

/-- The fields of a response word (R97): BUSY for handle 1, and COUNT 456 (R124's example). -/
theorem test_response_fields :
    respStatus 0x81000000 = 8 ∧ respHandle 0x81000000 = 1 ∧ respCount 0x000001C8 = 456 := by decide

/-! ### States that satisfy the invariant -/

/-- The clauses of the invariant on the waiters and the unwired pins, in a form that can be evaluated. -/
def waitersOk (s : State) : Bool :=
  (List.range 16).all (fun k =>
    match (s.slot (BitVec.ofNat 4 k)).pend with
    | none => true
    | some w => (s.slot (BitVec.ofNat 4 k)).isOpen && (s.slot (BitVec.ofNat 4 k)).pos == 0 && w.v == s.cnt)

theorem waiters_of_ok {s : State} (hs : waitersOk s = true) (h : Handle) (w : Waiter) (hw : (s.slot h).pend = some w) :
    (s.slot h).isOpen = true ∧ (s.slot h).pos = 0 ∧ w.v = s.cnt := by
  have := List.all_eq_true.1 hs h.toNat (List.mem_range.2 h.isLt)
  rw [BitVec.ofNat_toNat, BitVec.setWidth_eq, hw] at this
  simpa [and_assoc] using this

/-- V-SER-1's start: FT committed by handle 0, a READ pending on handle 1. -/
theorem emitting_inv : emitting.Inv where
  config := by decide
  canonical := by decide
  inFrame := by decide
  counter := by decide
  cursors := by decide
  absent := by decide
  waiters := waiters_of_ok (by decide)
  held := by intro h n hp; obtain ⟨rfl, rfl⟩ : (0 : Handle) = h ∧ 6 = n := by simpa [emitting] using hp
             decide
  exclusive := by decide
  stepIndex := by intro k hk; obtain rfl : 0 = k := by simpa [emitting] using hk
                  decide
  blankPin := by decide
  blanking := by intro k hk h0; obtain rfl : 0 = k := by simpa [emitting] using hk
                 omega
  unblanked := by intro h n _ hs; exact absurd hs (by decide)
  clkPin := by decide
  latPin := by decide
  unwired := by intro i _; simp [emitting, waiting, two, State.setPend, State.setSlot, State.resetWith, Config.dlevel, tiny]
  clients := by intro c hc; simp [emitting, waiting, two, State.setPend, State.setSlot, State.resetWith] at hc

/-- The same after the emission. -/
theorem emitted_inv : emitted.Inv where
  config := by decide
  canonical := by decide
  inFrame := by decide
  counter := by decide
  cursors := by decide
  absent := by decide
  waiters := waiters_of_ok (by decide)
  held := by intro h n hp; obtain ⟨rfl, rfl⟩ : (0 : Handle) = h ∧ 6 = n := by simpa [emitted, emitting] using hp
             decide
  exclusive := by decide
  stepIndex := by intro k hk; exact absurd hk (by simp [emitted])
  blankPin := by decide
  blanking := by intro k hk; exact absurd hk (by simp [emitted])
  unblanked := by intro h n _ _; decide
  clkPin := by decide
  latPin := by decide
  unwired := by intro i _; simp [emitted, emitting, waiting, two, State.setPend, State.setSlot, State.resetWith, Config.dlevel, tiny]
  clients := by intro c hc; simp [emitted, emitting, waiting, two, State.setPend, State.setSlot, State.resetWith] at hc

/-- The same with a client that presents `r`. -/
theorem emitted_asking_inv (r : Request) (l : List Choice) : ({ emitted with clients := [⟨[r], none⟩], sched := l } : State).Inv :=
  { emitted_inv with
    clients := by
      intro c hc h hw
      obtain rfl : c = ⟨[r], none⟩ := by simpa using hc
      exact absurd hw (by simp) }

/-! ### Witnesses: for every obligation with hypotheses, an input that meets them -/

/-- Every handle is open. -/
def full : State := { State.resetWith tiny with slots := Vector.replicate 16 ⟨true, 0, none⟩ }

theorem witness_DecodeEncodeRoundTrip :
    Instr.wf (.write 15 0 [] true) = true ∧ Instr.wf (.ctrlUnsupported8To15 15 7 2 [1, 2] true) = true := by decide

theorem witness_DecodedRequestReencodes :
    (Request.framed ⟨0x6F000000, [], true⟩ = true ∧ decodeRequest ⟨0x6F000000, [], true⟩ = .ok (.cancel 15))
    ∧ (Request.framed ⟨0x30000001, [9], true⟩ = true ∧ decodeRequest ⟨0x30000001, [9], true⟩ = .ok (.write 0 1 [9] true)) := by
  decide

theorem witness_HeadersMatchTheirTableRow :
    (10 < 11 ∧ (0x6F000000 : Word) &&& (opcodeRows.getD 10 (0, 0)).2 = (opcodeRows.getD 10 (0, 0)).1)
    ∧ (0 < 11 ∧ (0x10000000 : Word) &&& (opcodeRows.getD 0 (0, 0)).2 = (opcodeRows.getD 0 (0, 0)).1) := by decide

theorem witness_ResetPinLevels :
    tiny.doutW ≤ 64 ∧ 1 < tiny.doutW ∧ tiny.doutW ≤ 2 ∧ ({ tiny with doutW := 64 } : Config).doutW ≤ 64 := by decide

theorem witness_ResetSatisfiesInvariant : tiny.wf = true ∧ (Config.defaults 0 0).wf = true := by decide

theorem witness_IllFormedConfigurationRefused :
    Config.wf { tiny with maxHandles := 17 } = false
    ∧ ({ two with cfg := { tiny with maxHandles := 17 } } : State).cfg.wf = false ∧ tiny.wf = true := by decide

theorem witness_DefaultGammaTable : 16 ≤ 16 ∧ 255 < 256 := by decide

theorem witness_WiringMapStaysInFrame : tiny.wf = true ∧ 2 < 3 * tiny.cols ∧ 0 ∈ tiny.lines ∧ 1 ∈ tiny.lines := by decide

theorem witness_RowMapIsBijection :
    tiny.wf = true ∧ tiny.wiring[1]? = some 0 ∧ 1 ∈ tiny.lines ∧ tiny.lrow 1 = tiny.lrow 1 ∧ 1 < tiny.rows := by decide

theorem witness_DataWordBits : emitting.cfg.wf = true := by decide

theorem witness_ShiftRegisterGivesTheSameBits : emitted.cfg.wf = true := by decide

/-- V-SER-3's table and the table of its low four bits. -/
theorem witness_HighGammaBitsAreIgnored :
    ∀ (i : Fin 256) (b : Nat), b < tiny.gammaBits →
      ((Vector.replicate 256 (0x0005 : Half))[i]).getLsbD b = ((Vector.replicate 256 (0xABC5 : Half))[i]).getLsbD b := by
  decide +kernel

theorem witness_DataPolarity : tiny.doutW ≤ 64 ∧ ({ tiny with doutW := 64 } : Config).doutW ≤ 64 := by decide

theorem witness_SerializerFollowsEmit : emitting.cfg.wf = true := by decide

theorem witness_EmissionRunsToItsEnd :
    emitting.cfg.wf = true ∧ emitting.ser = .run 0 ∧ 95 < emitting.cfg.emissionSteps := by decide

theorem witness_SerializerReadsAndWritesOnly : ∃ t, serializerStep emitting = some t := ⟨_, rfl⟩

theorem witness_OpenBindsLeastFreeHandle :
    (two.port = .idle ∧ (2 : Handle).toNat < two.cfg.maxHandles ∧ (two.slot 2).isOpen = false
      ∧ ∀ g : Handle, g.toNat < (2 : Handle).toNat → (two.slot g).isOpen = true)
    ∧ ((full.setOpen 15 false).port = .idle ∧ (15 : Handle).toNat < (full.setOpen 15 false).cfg.maxHandles
      ∧ ((full.setOpen 15 false).slot 15).isOpen = false
      ∧ ∀ g : Handle, g.toNat < (15 : Handle).toNat → ((full.setOpen 15 false).slot g).isOpen = true) := by decide

theorem witness_OpenWithEverySlotOpen :
    full.port = .idle ∧ ∀ g : Handle, g.toNat < full.cfg.maxHandles → (full.slot g).isOpen = true := by decide

theorem witness_CloseReleasesHandle : two.ready 1 ∧ full.ready 15 := by decide

theorem witness_WriteBelowTheBoundary :
    (two.ready 0 ∧ [1, 2, 3, 4, (5 : Byte)].length = (5 : Half).toNat ∧ Memory.wf two.mem
      ∧ writeAddr two 0 + transferLen two 5 (writeAddr two 0) < two.fbBytes)
    ∧ ((two.setPos 0 6).ready 0 ∧ ([] : List Byte).length = (0 : Half).toNat ∧ Memory.wf (two.setPos 0 6).mem
      ∧ writeAddr (two.setPos 0 6) 0 + transferLen (two.setPos 0 6) 0 (writeAddr (two.setPos 0 6) 0)
        < (two.setPos 0 6).fbBytes) := by decide

theorem witness_WriteAtTheBoundaryCommits :
    (two.ready 0 ∧ [1, 2, 3, 4, 5, (6 : Byte)].length = (6 : Half).toNat ∧ Memory.wf two.mem
      ∧ writeAddr two 0 + transferLen two 6 (writeAddr two 0) = two.fbBytes)
    ∧ ((two.setPos 0 5).ready 0 ∧ [7, 8, (9 : Byte)].length = (3 : Half).toNat ∧ Memory.wf (two.setPos 0 5).mem
      ∧ writeAddr (two.setPos 0 5) 0 + transferLen (two.setPos 0 5) 3 (writeAddr (two.setPos 0 5) 0)
        = (two.setPos 0 5).fbBytes) := by decide

theorem witness_ReadAtEndOfFrame :
    (two.setPos 0 6).ready 0 ∧ ((two.setPos 0 6).slot 0).pos = (two.setPos 0 6).fbBytes := by decide

theorem witness_BlockingReadRegisters : two.ready 1 ∧ (two.slot 1).pos = 0 ∧ two.fbBytes ≠ 0 := by decide

theorem witness_ImmediateReadReturnsBytes :
    ((two.setPos 0 5).ready 0 ∧ ((two.setPos 0 5).slot 0).pos < (two.setPos 0 5).fbBytes ∧ ((two.setPos 0 5).slot 0).pos ≠ 0)
    ∧ (two.ready 0 ∧ (two.slot 0).pos < two.fbBytes ∧ (true = true ∨ (two.slot 0).pos ≠ 0)) := by decide

theorem witness_CancelInterruptsBlockedRead :
    (waiting.bound 1 = true ∧ waiting.waiting 1 = true) ∧ (emitting.bound 1 = true ∧ emitting.waiting 1 = true) := by decide

theorem witness_CancelWithoutWaiter : two.bound 0 = true ∧ two.waiting 0 = false := by decide

theorem witness_SetLatchDelayWritesLatchDelay : two.ready 0 := by decide

theorem witness_SetClockDelayWritesClockDelay : two.ready 1 := by decide

theorem witness_SetGammaReplacesTheTable : two.ready 0 ∧ (List.replicate 512 (0 : Byte)).length = 512 := by decide +kernel

theorem witness_SetBlankForcesThePin :
    two.ready 0 ∧ [0, 0, 0, (0 : Byte)].length = 4 ∧ [0, 1, 0, (0 : Byte)].length = 4 := by decide

theorem witness_WrongControlLength :
    two.ready 0 ∧ (3 : Half) ≠ 4 ∧ (5 : Half) ≠ 4 ∧ (511 : Half) ≠ 512 ∧ (513 : Half) ≠ 512 := by decide

theorem witness_UnsupportedCommands : two.ready 0 := by decide

theorem witness_TransferErrorsEndFault :
    two.ready 0
    ∧ ((two.setPos 0 5).ready 0 ∧ ((two.setPos 0 5).slot 0).pos ≠ (two.setPos 0 5).fbBytes ∧ ((two.setPos 0 5).slot 0).pos ≠ 0)
    ∧ (two.ready 0 ∧ (two.slot 0).pos ≠ two.fbBytes)
    ∧ ((emitted.setPend 1 (some ⟨0, 6, true⟩)).slot 1).pend = some ⟨0, 6, true⟩ := by decide

theorem witness_UnboundHandle :
    (Instr.close 2 ≠ .openHandle ∧ two.bound (Instr.close 2).handle = false ∧ two.port = .idle)
    ∧ (Instr.cancel 2 ≠ .openHandle ∧ emitting.bound (Instr.cancel 2).handle = false
      ∧ Instr.cancel 2 = .cancel (Instr.cancel 2).handle) := by decide

theorem witness_HandleWithPendingRead :
    Instr.close 1 ≠ .openHandle ∧ Instr.close 1 ≠ .cancel (Instr.close 1).handle ∧ waiting.port = .idle
    ∧ waiting.bound (Instr.close 1).handle = true ∧ waiting.waiting (Instr.close 1).handle = true := by decide

theorem witness_RequestsAreHeldWithThePort :
    emitting.port ≠ .idle ∧ isCancel ⟨0x41000006, [], false⟩ = false ∧ isCancel ⟨0x70000000, [], false⟩ = false := by decide

theorem witness_IllegalRequestResponse :
    two.port = .idle ∧ decodeRequest ⟨0x7F000000, [], false⟩ = .error .reservedOp := by decide

theorem witness_TransactionsWriteOnly :
    (∃ t, exec (.close 1) two = .next t) ∧ (∃ t, exec (.write 0 1 [9] false) two = .next t)
    ∧ (Instr.close 1).row ≠ 2 ∧ (Instr.close 1).row ≠ 4 ∧ (Instr.close 1).row ≠ 5 ∧ (Instr.close 1).row ≠ 6
    ∧ (Instr.close 1).row ≠ 7 := ⟨⟨_, rfl⟩, ⟨_, rfl⟩, by decide⟩

theorem witness_TransactionsKeepOtherHandles :
    (∃ t, exec .openHandle two = .next t) ∧ (∃ t, exec (.close 1) two = .next t)
    ∧ (∃ t, exec (.write 0 1 [9] false) two = .next t) ∧ (∃ t, exec (.read 1 false 6 false) two = .next t)
    ∧ (∃ t, exec (.cancel 1) waiting = .next t)
    ∧ (4 ≤ (Instr.setLatchDelay 0 0 [] false).row ∧ (Instr.ctrlUnsupported8To15 0 0 0 [] false).row ≤ 9
      ∧ ∃ t, exec (.ctrlUnsupported8To15 0 0 0 [] false) two = .next t) :=
  ⟨⟨_, rfl⟩, ⟨_, rfl⟩, ⟨_, rfl⟩, ⟨_, rfl⟩, ⟨_, rfl⟩, by decide, by decide, ⟨_, rfl⟩⟩

theorem witness_WriteLeavesOtherBytes :
    Memory.wf two.mem ∧ (∃ t, exec (.write 0 1 [9] false) two = .next t)
    ∧ ¬ (writeAddr two 0 ≤ 1 ∧ 1 < writeAddr two 0 + transferLen two 1 (writeAddr two 0)) :=
  ⟨by decide, ⟨_, rfl⟩, by decide⟩

theorem witness_CursorBelowTheBoundAfterWrite :
    two.ready 0 ∧ (two.slot 0).pos ≤ two.fbBytes
    ∧ ∃ t, exec (.write 0 5 [1, 2, 3, 4, 5] false) two = .next t ∧ t.port = .idle :=
  ⟨by decide, by decide, _, rfl, by decide⟩

theorem witness_TransactionsAreRecorded :
    (two.port = .idle ∧ ∃ t, exec (.close 1) two = .next t)
    ∧ (Instr.cancel 1 = .cancel (Instr.cancel 1).handle ∧ ∃ t, exec (.cancel 1) emitting = .next t) :=
  ⟨⟨by decide, _, rfl⟩, by decide, _, rfl⟩

theorem witness_FrameReadyStep :
    (emitted.port = .held 0 6 ∧ emitted.ser = .idle ∧ (1 : Handle) ≠ 0 ∧ (1 : Handle).toNat < emitted.cfg.maxHandles)
    ∧ (({ emitted with cfg := { tiny with maxHandles := 2 } } : State).port = .held 0 6
      ∧ ({ emitted with cfg := { tiny with maxHandles := 2 } } : State).ser = .idle ∧ (2 : Handle) ≠ 0
      ∧ ({ emitted with cfg := { tiny with maxHandles := 2 } } : State).cfg.maxHandles ≤ (2 : Handle).toNat) := by decide

theorem witness_ReleaseIsBroadcast : emitted.Inv ∧ ∃ t, frameReadyStep emitted = some t := ⟨emitted_inv, _, rfl⟩

theorem witness_WaitersGetTheCommittedFrame :
    emitted.Inv ∧ (∃ t, frameReadyStep emitted = some t) ∧ (emitted.slot 1).pend = some ⟨0, 6, false⟩ :=
  ⟨emitted_inv, ⟨_, rfl⟩, by decide⟩

theorem witness_ReleasedWaiterSeesANewCount :
    emitted.Inv ∧ (∃ t, frameReadyStep emitted = some t) ∧ (emitted.slot 1).pend = some ⟨0, 6, false⟩ :=
  ⟨emitted_inv, ⟨_, rfl⟩, by decide⟩

/-- `WRITE 1, [9]` as a request. -/
def write9 : Request := ⟨0x31000001, [9], false⟩

/-- A request with OP 7. -/
def op7 : Request := ⟨0x7F000000, [], false⟩

/-- `READ 1, 6` presented while the port is held. -/
def heldRead : State := { emitting with clients := [⟨[⟨0x41000006, [], false⟩], none⟩], sched := [.client 0] }

/-- The interrupt source is about to issue `CANCEL 1` during the emission. -/
def interrupting : State := { emitting with irq := [1], sched := [.interrupt] }

theorem witness_StepRunsTheTransaction :
    (asking write9).cfg.wf = true ∧ nextChoice (asking write9) = some (.client 0)
    ∧ (asking write9).clients[0]? = some ⟨[write9], none⟩ ∧ Client.presents ⟨[write9], none⟩ = some write9
    ∧ admissible (asking write9) write9 = true ∧ write9.framed = true
    ∧ decodeRequest write9 = .ok (.write 1 1 [9] false) ∧ next? (fun _ => ()) (step (asking write9)) = some () := by decide

/-- The client of the committing WRITE on handle 0 waits, before the emission's first step. -/
def emittingWait : State := { emitting with clients := [⟨[write9], some 0⟩] }

/-- The same before the frame-ready step, which answers it. -/
def emittedWait : State := { emitted with clients := [⟨[write9], some 0⟩] }

theorem emittingWait_inv : emittingWait.Inv :=
  { emitting_inv with
    clients := by
      intro c hc h hw
      obtain rfl : c = ⟨[write9], some 0⟩ := by simpa [emittingWait] using hc
      obtain rfl : 0 = h := by simpa using hw
      decide }

theorem emittedWait_inv : emittedWait.Inv :=
  { emitted_inv with
    clients := by
      intro c hc h hw
      obtain rfl : c = ⟨[write9], some 0⟩ := by simpa [emittedWait] using hc
      obtain rfl : 0 = h := by simpa using hw
      decide }

/-- A client that waits, in a step after which it still waits and in one that answers it. -/
theorem witness_StepRunsTheTransaction_waiting :
    (emittingWait.Inv ∧ emittingWait.clients[0]? = some ⟨[write9], some 0⟩
      ∧ next? (fun t => t.outstanding 0) (step emittingWait) = some true)
    ∧ (emittedWait.Inv ∧ emittedWait.clients[0]? = some ⟨[write9], some 0⟩
      ∧ next? (fun t => t.outstanding 0) (step emittedWait) = some false) :=
  ⟨⟨emittingWait_inv, by decide, by decide +kernel⟩, emittedWait_inv, by decide, by decide +kernel⟩

theorem witness_StepOfOtherChoices :
    ((asking op7).cfg.wf = true ∧ nextChoice (asking op7) = some (.client 0)
      ∧ (asking op7).clients[0]? = some ⟨[op7], none⟩ ∧ Client.presents ⟨[op7], none⟩ = some op7 ∧ (asking op7).port = .idle
      ∧ op7.framed = true ∧ decodeRequest op7 = .error .reservedOp)
    ∧ (heldRead.cfg.wf = true ∧ nextChoice heldRead = some (.client 0)
      ∧ heldRead.clients[0]? = some ⟨[⟨0x41000006, [], false⟩], none⟩
      ∧ Client.presents ⟨[⟨0x41000006, [], false⟩], none⟩ = some ⟨0x41000006, [], false⟩
      ∧ admissible heldRead ⟨0x41000006, [], false⟩ = false)
    ∧ (interrupting.cfg.wf = true ∧ nextChoice interrupting = some .interrupt ∧ interrupting.irq = [1]) := by decide

theorem witness_StepOfOtherChoices_pins :
    (emitting.cfg.wf = true ∧ nextChoice emitting = some .serializer
      ∧ ∃ t, serializerStep { emitting with sched := emitting.sched.tail } = some t)
    ∧ (emitted.cfg.wf = true ∧ nextChoice emitted = some .frameReady
      ∧ ∃ t, frameReadyStep { emitted with sched := emitted.sched.tail } = some t) :=
  ⟨⟨by decide, by decide, _, rfl⟩, by decide, by decide, _, rfl⟩

theorem witness_StepKeepsInvariant :
    (emitted.Inv ∧ ∃ t, step emitted = .next t) ∧ (emitting.Inv ∧ ∃ t, step emitting = .next t) :=
  ⟨⟨emitted_inv, _, rfl⟩, emitting_inv, _, rfl⟩

/-- A CANCEL that comes with a payload byte: no request. -/
def unframed : State := { emitted with clients := [⟨[⟨0x61000000, [1], false⟩], none⟩], sched := [.client 0] }

theorem witness_NoFaultUnderTheInvariant : unframed.Inv ∧ step unframed = .refused .unframedRequest :=
  ⟨emitted_asking_inv _ _, rfl⟩

theorem witness_EmissionIsNotDisturbed :
    emitting.Inv ∧ emitting.ser = .run 0 ∧ ∃ t, step emitting = .next t := ⟨emitting_inv, rfl, _, rfl⟩

theorem witness_CounterCountsFrames :
    emitted.cnt = frames emitted.trace % 2 ^ emitted.cfg.cntW ∧ ∃ t, step emitted = .next t := ⟨by decide, _, rfl⟩

theorem witness_ConfigurationAndHistoryAreKept : ∃ t, step emitted = .next t := ⟨_, rfl⟩

theorem witness_QuiescentStateRests : waiting.cfg.wf = true ∧ waiting.sched = [] ∧ waiting.quiescent := by decide

/-- A WRITEFRAME that ends after a resubmission, and one of two pieces (of a list longer than a frame) after a full COUNT. -/
theorem witness_PseudoInstructions :
    (tiny.wf = true
      ∧ (writeFrame tiny 0 [1, 2, 3, 4, 5, 6] [0x00000004, 0x00000002])[1]? = some (.write 0 2 [5, 6] false)
      ∧ (writeFrame tiny 0 [1, 2, 3, 4, 5, 6] [0x00000004, 0x00000002]).length ≤ [(0x00000004 : Word), 0x00000002].length)
    ∧ (1 ≤ [(0x00000006 : Word)].length ∧ 1 * min tiny.fbBytes 65535 < [1, 2, 3, 4, 5, 6, (7 : Byte)].length
      ∧ ∀ w ∈ [(0x00000006 : Word)].take 1, respCount w = min tiny.fbBytes 65535) :=
  ⟨by decide, by decide, by decide, fun w hw => by obtain rfl : w = 6 := by simpa using hw
                                                   decide⟩

end Sys2Proof.Tests
end

section
/-! SUPPORT. What one transaction, and what one step, can do to the state: one case per way it can end. Every invariant is
then a case analysis over these two relations. -/

namespace Sys2Proof.Machine

/-- What a request with header `w` can do from `s`: one constructor per way in which the state can change. -/
inductive Effect (w : Word) (s : State) : State → Prop
  /-- it waits while the port is held (R119) -/
  | held : Effect w s s
  /-- it is answered, and changes nothing (R15) -/
  | answered (st : Status) (h : Handle) (n : Nat) (d : List Byte) : Effect w s ((s.emit (.req w)).respond st h n d)
  /-- a control command sets the gamma table or a delay (R203 to R205) -/
  | tuned (h : Handle) (g : Vector Half 256) (tc tl : Word) :
      Effect w s ({ s.emit (.req w) with gt := g, tClk := tc, tLat := tl }.respond .ok h 0 [])
  /-- SET_BLANK forces the pin (R206) -/
  | blanked (h : Handle) (b : Bool) : Effect w s ((setBlank b (s.emit (.req w))).respond .ok h 0 [])
  /-- OPEN binds a free slot (R120) -/
  | opened (h : Handle) : s.port = .idle → freeHandle s = some h →
      Effect w s (((s.emit (.req w)).setSlot h ⟨true, 0, none⟩).respond .ok h 0 [])
  /-- CLOSE frees a slot (R122) -/
  | closed (h : Handle) : s.ready h → Effect w s (((s.emit (.req w)).setOpen h false).respond .ok h 0 [])
  /-- a READ moves the cursor (R125) -/
  | moved (h : Handle) (a n : Nat) (d : List Byte) : s.ready h → a ≤ s.fbBytes →
      Effect w s (((s.emit (.req w)).setPos h a).respond .ok h n d)
  /-- a WRITE below the boundary stores bytes and moves the cursor (R124) -/
  | stored (h : Handle) (a n : Nat) (p : List Byte) : s.ready h → a + n ≤ s.fbBytes →
      Effect w s (({ s.emit (.req w) with mem := s.mem.writeBytes a (p.take n) }.setPos h (a + n)).respond .ok h n [])
  /-- a WRITE at the boundary stores bytes and starts the emission (R151) -/
  | committed (h : Handle) (a n : Nat) (p : List Byte) : s.ready h → a + n ≤ s.fbBytes → n < 2 ^ 16 →
      Effect w s (commitStart h n { s.emit (.req w) with mem := s.mem.writeBytes a (p.take n) })
  /-- a blocking READ registers (R126) -/
  | registered (h : Handle) (len : Half) (x : Bool) : s.ready h → (s.slot h).pos = 0 →
      Effect w s (register h len x (s.emit (.req w)))
  /-- CANCEL ends a pending READ (R128) -/
  | interrupted (h : Handle) : s.waiting h = true →
      Effect w s ((((s.emit (.req w)).setPend h none).raise .interrupted h).respond .ok h 1 [])

/-! ### Every transaction has one of these effects -/

section
variable {i : Instr} {h : Handle} {body : State → Result} {s t : State}

theorem openBody_effect (hp : s.port = .idle) (he : openBody (s.received .openHandle) = .next t) :
    Effect Instr.openHandle.header s t := by
  unfold openBody at he
  split at he <;> cases he
  case h_1 h hf => exact .opened h hp hf
  case h_2 => exact .answered .noHandle 0 0 []

/-- The prologue's own answers are effects, so only what the body does with a ready handle is left to show. -/
theorem onHandle_effect (hbody : s.ready h → body (s.received i) = .next t → Effect i.header s t)
    (he : onHandle i h body s = .next t) : Effect i.header s t := by
  obtain ⟨-, ho⟩ | ⟨-, -, ho⟩ | ⟨-, -, -, ho⟩ | ⟨hr, hb⟩ := onHandle_cases he
  · cases ho; exact .held
  · cases ho; exact .answered .badHandle h 0 []
  · cases ho; exact .answered .busy h 0 []
  · exact hbody hr hb

/-- A control command has the effect of its own setting, if that is one. -/
theorem ctrl_effect {size len : Half} {x : Bool} {f : State → State}
    (hf : Effect i.header s ((f (s.received i)).respond .ok h 0 []))
    (he : onHandle i h (ctrlBody size h len x f) s = .next t) : Effect i.header s t := by
  refine onHandle_effect (fun _ hb => ?_) he
  obtain ⟨-, ho⟩ | ⟨-, -, ho⟩ | ⟨-, -, ho⟩ := ctrlBody_cases hb
  · cases ho; exact .answered .badLen h 0 []
  · cases ho; exact .answered .fault h 0 []
  · cases ho; exact hf

theorem writeBody_effect {len : Half} {p : List Byte} {x : Bool} (hr : s.ready h)
    (he : writeBody h len p x (s.received i) = .next t) : Effect i.header s t := by
  unfold writeBody at he
  split_ifs at he
  · cases he; exact .answered .fault h 0 []
  · simp only at he
    split at he <;> cases he
    next s1 hm =>
      obtain ⟨hle, rfl⟩ := State.memWrite_eq_some.1 hm
      unfold writeDone
      split_ifs
      · exact .committed h _ _ p hr hle (transferLen_lt len _)
      · exact .stored h _ _ p hr hle

theorem readBody_effect {nb : Bool} {len : Half} {x : Bool} (hr : s.ready h)
    (he : readBody h nb len x (s.received i) = .next t) : Effect i.header s t := by
  unfold readBody at he
  split_ifs at he with heof hblock
  · cases he; exact .moved h 0 0 [] hr (Nat.zero_le _)
  · cases he; exact .registered h len x hr hblock.1
  · cases he; exact .answered .fault h 0 []
  · unfold readNow at he
    simp only at he
    split at he <;> cases he
    next d hm => exact .moved h _ _ d hr (State.memRead_eq_some.1 hm).1

theorem cancel_effect (he : execCancel h s = .next t) : Effect (Instr.cancel h).header s t := by
  unfold execCancel at he
  cases hb : s.bound h
  · rw [onCancel_badHandle hb] at he
    cases he; exact .answered .badHandle h 0 []
  · rw [onCancel_bound hb, cancelBody] at he
    split_ifs at he with hw <;> cases he
    · exact .interrupted h hw
    · exact .answered .ok h 0 []

/-- Whatever transaction is run, it has one of the effects. -/
theorem exec_effect (he : exec i s = .next t) : Effect i.header s t := by
  cases i with
  | openHandle =>
    change whenAdmitted _ openBody s = _ at he
    by_cases hp : s.port = .idle
    · exact openBody_effect hp ((whenAdmitted_idle hp).symm.trans he)
    · rw [whenAdmitted_held hp] at he
      cases he; exact .held
  | close h => exact onHandle_effect (fun hr hb => by cases hb; exact .closed h hr) he
  | write h len p x => exact onHandle_effect writeBody_effect he
  | read h nb len x => exact onHandle_effect readBody_effect he
  | setLatchDelay h len p x => exact ctrl_effect (.tuned h s.gt s.tClk (le32 p 0)) he
  | setClockDelay h len p x => exact ctrl_effect (.tuned h s.gt (le32 p 0) s.tLat) he
  | setGamma h len p x => exact ctrl_effect (.tuned h (gammaOf p) s.tClk s.tLat) he
  | setBlank h len p x => exact ctrl_effect (.blanked h (le32 p 0 != 0)) he
  | ctrlUnsupported4To7 h c len p x =>
    exact onHandle_effect (fun _ hb => by cases hb; exact .answered .notSupported h 0 []) he
  | ctrlUnsupported8To15 h c len p x =>
    exact onHandle_effect (fun _ hb => by cases hb; exact .answered .notSupported h 0 []) he
  | cancel h => exact cancel_effect he

end

theorem runRequest_effect {r : Request} {s t : State} (he : runRequest r s = .next t) : ∃ w, Effect w s t := by
  obtain ⟨i, -, hi⟩ | ⟨e, -, hi⟩ := runRequest_cases he
  · exact ⟨_, exec_effect hi⟩
  · refine ⟨r.header, ?_⟩
    by_cases hp : s.port = .idle
    · rw [illegalRequest_idle hp] at hi
      cases hi; exact .answered .illegal _ 0 []
    · rw [illegalRequest_held hp] at hi
      cases hi; exact .held

/-! ### What every effect leaves alone -/

section
variable {w : Word} {s t : State}

theorem Effect.cfg (he : Effect w s t) : t.cfg = s.cfg := by cases he <;> rfl

theorem Effect.clients (he : Effect w s t) : t.clients = s.clients := by cases he <;> rfl

theorem Effect.trace_prefix (he : Effect w s t) : s.trace <+: t.trace := by cases he <;> simp

end

/-! ### One step -/

/-- What the chosen agent can do from `s`, the clients' bookkeeping apart: nothing, a transaction, a pin step of the emission,
or the frame-ready step (R9). -/
inductive Move (s : State) : State → Prop
  | rest : Move s s
  | transaction {w : Word} {t : State} : Effect w s t → Move s t
  | pin {k : Nat} {st : SerStep} : s.ser = .run k → emissionAt s k = some st → Move s (perform k s st)
  | frame {h : Handle} {n : Nat} : s.port = .held h n → s.ser = .idle → Move s (frameReady h n s)

theorem serializer_move (s : State) : Move s ((serializerStep s).getD s) := by
  cases hs : serializerStep s with
  | none => exact .rest
  | some t =>
    obtain ⟨k, st, hk, hst, rfl⟩ := serializerStep_eq_some.1 hs
    exact .pin hk hst

theorem frameReady_move (s : State) : Move s ((frameReadyStep s).getD s) := by
  cases hs : frameReadyStep s with
  | none => exact .rest
  | some t =>
    obtain ⟨h, n, hp, hk, rfl⟩ := frameReadyStep_eq_some.1 hs
    exact .frame hp hk

section
variable (h : Handle) (n : Nat) (s : State)

theorem releaseWaiters_countFrame_same : SameButSlots (countFrame s) (releaseWaiters (countFrame s)) :=
  (releaseWaiters_spec (countFrame s)).1

@[simp] theorem frameReady_cfg : (frameReady h n s).cfg = s.cfg := (releaseWaiters_countFrame_same s).cfg

@[simp] theorem frameReady_clients : (frameReady h n s).clients = s.clients := (releaseWaiters_countFrame_same s).clients

theorem releaseWaiters_countFrame_slot (g : Handle) :
    (releaseWaiters (countFrame s)).slot g = if g.toNat < s.cfg.maxHandles then completedSlot s (s.slot g) else s.slot g :=
  (releaseWaiters_spec (countFrame s)).2.1 g

/-- The committing handle's cursor is back at 0 (R153). -/
theorem frameReady_slot (g : Handle) :
    (frameReady h n s).slot g
      = if g = h then { (releaseWaiters (countFrame s)).slot h with pos := 0 } else (releaseWaiters (countFrame s)).slot g :=
  State.slot_setPos _ h g 0

theorem frameReady_trace :
    (frameReady h n s).trace
      = s.trace ++ (.frameReady ((s.cnt + 1) % 2 ^ s.cfg.cntW) :: waiterEvents s ++ [.resp (responseWord .ok h n) []]) := by
  have htrace : (releaseWaiters (countFrame s)).trace = (countFrame s).trace ++ waiterEvents s :=
    (releaseWaiters_spec (countFrame s)).2.2
  change (releaseWaiters (countFrame s)).trace ++ _ = _
  simp [htrace]

end

section
variable {s t : State}

theorem Move.cfg (hm : Move s t) : t.cfg = s.cfg := by
  cases hm with
  | rest => rfl
  | transaction he => exact he.cfg
  | pin => exact perform_cfg ..
  | frame => exact frameReady_cfg ..

theorem Move.clients (hm : Move s t) : t.clients = s.clients := by
  cases hm with
  | rest => rfl
  | transaction he => exact he.clients
  | pin => exact perform_clients ..
  | frame => exact frameReady_clients ..

theorem Move.trace_prefix (hm : Move s t) : s.trace <+: t.trace := by
  cases hm with
  | rest => exact List.prefix_rfl
  | transaction he => exact he.trace_prefix
  | pin => simp
  | frame => simp [frameReady_trace]

end

/-- The clients that wait are the same in two lists. -/
def SameWaiting (cs ds : List Client) : Prop :=
  ∀ (j : Nat) (c : Client) (h : Handle), cs[j]? = some c → c.waits = some h → ds[j]? = some c

theorem SameWaiting.refl (cs : List Client) : SameWaiting cs cs := fun _ _ _ hc _ => hc

/-- Changing a client that does not wait leaves those that wait as they are. -/
theorem SameWaiting.modify {cs ds : List Client} (hs : SameWaiting cs ds) {k : Nat} {c : Client} (hc : cs[k]? = some c)
    (hw : c.waits = none) (f : Client → Client) : SameWaiting cs (ds.modify k f) := by
  intro j d h hd hdw
  have hne : k ≠ j := by rintro rfl; simp_all
  simp [hne, hs j d h hd hdw]

theorem waits_of_presents {c : Client} {r : Request} (hp : c.presents = some r) : c.waits = none := by
  unfold Client.presents at hp
  split at hp <;> simp_all

theorem noteWait_eq (k : Nat) (h : Handle) (s t : State) :
    noteWait k h s t = { t with clients := (noteWait k h s t).clients } := by
  unfold noteWait; split <;> rfl

theorem sameWaiting_noteWait {cs : List Client} {s t : State} {k : Nat} {h : Handle} {c : Client} (hc : cs[k]? = some c)
    (hw : c.waits = none) (hs : SameWaiting cs t.clients) : SameWaiting cs (noteWait k h s t).clients := by
  unfold noteWait
  split
  · exact hs.modify hc hw _
  · exact hs

/-- `s` with other inputs: the clients, the interrupt source's handles, the choices. -/
def State.withInputs (s : State) (cs : List Client) (q : List Handle) (d : List Choice) : State :=
  { s with clients := cs, irq := q, sched := d }

/-- The chosen agent makes a move, from a state in which its input has been used up, and no client that waits is touched. -/
theorem agentStep_move {c : Choice} {s u : State} (he : agentStep c s = .next u) :
    ∃ cs q v, Move (s.withInputs cs q s.sched) v ∧ u = { v with clients := u.clients }
      ∧ SameWaiting s.clients u.clients := by
  cases c with
  | client k =>
    obtain rfl | ⟨c, r, v, hc, hp, -, -, hr, rfl⟩ := clientStep_cases he
    · exact ⟨_, _, _, .rest, rfl, .refl _⟩
    · obtain ⟨w, hw⟩ := runRequest_effect hr
      have hn := waits_of_presents hp
      refine ⟨_, _, v, .transaction hw, noteWait_eq .., sameWaiting_noteWait hc hn ?_⟩
      rw [hw.clients]
      exact (SameWaiting.refl _).modify hc hn _
  | interrupt =>
    obtain rfl | ⟨g, rest, -, hx⟩ := interruptStep_cases he
    · exact ⟨_, _, _, .rest, rfl, .refl _⟩
    · have hx := exec_effect hx
      exact ⟨_, _, u, .transaction hx, rfl, hx.clients ▸ .refl _⟩
  | serializer =>
    cases he
    have hm := serializer_move s
    exact ⟨s.clients, s.irq, _, hm, rfl, hm.clients ▸ .refl _⟩
  | frameReady =>
    cases he
    have hm := frameReady_move s
    exact ⟨s.clients, s.irq, _, hm, rfl, hm.clients ▸ .refl _⟩

/-- A step that answers a next state: nothing could move; or an agent made a move, and then every client learned of its
response. -/
theorem step_move {s t : State} (hs : step s = .next t) :
    t = s ∨ ∃ cs q d ds v, Move (s.withInputs cs q d) v ∧ t = settle { v with clients := ds } ∧ SameWaiting s.clients ds := by
  obtain ⟨-, ⟨-, rfl⟩ | ⟨c, u, -, hu, rfl⟩⟩ := step_cases hs
  · exact .inl rfl
  · obtain ⟨cs, q, v, hm, hv, hw⟩ := agentStep_move hu
    exact .inr ⟨cs, q, _, u.clients, v, hm, congrArg settle hv, hw⟩

/-- Settles O58: every move keeps the configuration and extends the trace, and settling the clients touches neither. -/
theorem configurationAndHistoryAreKept : Obligations.ConfigurationAndHistoryAreKept := by
  intro s t hs
  obtain rfl | ⟨cs, q, d, ds, v, hm, rfl, -⟩ := step_move hs
  · exact ⟨rfl, List.prefix_rfl⟩
  · exact ⟨hm.cfg, hm.trace_prefix⟩

end Sys2Proof.Machine
end

section
/-! SUPPORT. Every move keeps the invariant, the clients apart, and settling the clients restores their clause. -/

namespace Sys2Proof.Machine

/-- `s` with everything that the invariant does not read, and the clients, as at reset. Two states with the same device satisfy
the same clauses of the invariant but the one on clients. -/
def State.device (s : State) : State :=
  { State.resetWith s.cfg with
    slots := s.slots, mem := s.mem, cnt := s.cnt, blankForce := s.blankForce, blankSer := s.blankSer, port := s.port,
    ser := s.ser, dout := s.dout, clk := s.clk, lat := s.lat, blank := s.blank }

/-- The invariant is that of the device, and the clause on clients. -/
theorem State.inv_iff {s : State} :
    s.Inv ↔ s.device.Inv ∧ ∀ c ∈ s.clients, ∀ h, c.waits = some h → s.outstanding h = true :=
  ⟨fun hs => ⟨{ hs with clients := nofun }, hs.clients⟩, fun ⟨hd, hc⟩ => { hd with clients := hc }⟩

theorem State.Inv.device {s : State} (hs : s.Inv) : s.device.Inv := (State.inv_iff.1 hs).1

/-- A client that waits after settling has a transaction without a response: the others were released (R10). -/
theorem settle_inv {s : State} (hs : s.device.Inv) : (settle s).Inv := by
  refine State.inv_iff.2 ⟨hs, fun c hc h hw => ?_⟩
  obtain ⟨b, -, rfl⟩ := List.mem_map.1 hc
  unfold Client.release at hw
  split at hw
  · split_ifs at hw with ho
    simp_all
  · simp_all

/-! ### Transactions -/

section
variable {s : State}

/-- Setting a slot keeps the invariant when the new slot's cursor and waiter are as the invariant asks, and the committing
handle stays bound. -/
theorem inv_setSlot (hs : s.device.Inv) {h : Handle} {v : Slot} (hh : h.toNat < s.cfg.maxHandles) (hpos : v.pos ≤ s.fbBytes)
    (hpend : ∀ w, v.pend = some w → v.isOpen = true ∧ v.pos = 0 ∧ w.v = s.cnt)
    (hheld : ∀ n, s.port = .held h n → v.isOpen = true ∧ v.pend = none) : (s.setSlot h v).device.Inv := by
  have slot_ne : ∀ g, g ≠ h → (s.setSlot h v).slot g = s.slot g := fun g => State.slot_setSlot_ne s v
  refine { hs with
    cursors := fun g => ?_, absent := fun g hg => ?_, waiters := fun g w hw => ?_, held := fun g n hp => ?_, clients := nofun }
  · change ((s.setSlot h v).slot g).pos ≤ s.fbBytes
    by_cases e : g = h
    · subst e; simpa using hpos
    · rw [slot_ne g e]; exact hs.cursors g
  · have e : g ≠ h := by rintro rfl; exact absurd hh (not_lt.2 hg)
    exact (slot_ne g e).trans (hs.absent g hg)
  · change ((s.setSlot h v).slot g).pend = some w at hw
    change ((s.setSlot h v).slot g).isOpen = true ∧ ((s.setSlot h v).slot g).pos = 0 ∧ w.v = s.cnt
    by_cases e : g = h
    · subst e
      rw [State.slot_setSlot_self] at hw ⊢
      exact hpend w hw
    · rw [slot_ne g e] at hw ⊢; exact hs.waiters g w hw
  · change (s.setSlot h v).bound g = true ∧ (s.setSlot h v).waiting g = false ∧ n < 2 ^ 16
    have hp : s.port = .held g n := hp
    obtain ⟨hb, hw, hn⟩ : s.bound g = true ∧ s.waiting g = false ∧ n < 2 ^ 16 := hs.held g n hp
    by_cases e : g = h
    · subst e
      obtain ⟨ho, hnone⟩ := hheld n hp
      exact ⟨by simp [State.bound_iff, hh, ho], by simp [State.waiting, hnone], hn⟩
    · simp only [State.bound_iff, State.waiting, slot_ne g e, State.setSlot_cfg] at hb hw ⊢
      exact ⟨hb, hw, hn⟩

/-- The same for a slot that is free for a transaction, so that it has no waiter and the port is not held. -/
theorem inv_setSlot_ready (hs : s.device.Inv) {h : Handle} {v : Slot} (hr : s.ready h) (hpos : v.pos ≤ s.fbBytes)
    (hpend : v.pend = (s.slot h).pend) : (s.setSlot h v).device.Inv := by
  obtain ⟨hp, hb, hw⟩ := hr
  have hnone : v.pend = none := by simpa [State.waiting, hpend] using hw
  refine inv_setSlot hs (State.bound_iff s h |>.1 hb).1 hpos ?_ ?_
  · simp [hnone]
  · simp [hp]

/-- Bytes stored inside the frame keep the memory canonical and inside the frame (R64). -/
theorem inv_writeBytes (hs : s.device.Inv) {a n : Nat} (hle : a + n ≤ s.fbBytes) (p : List Byte) :
    { s with mem := s.mem.writeBytes a (p.take n) }.device.Inv :=
  { hs with
    canonical := Memory.writeBytes_wf hs.canonical a _
    inFrame := Memory.writeBytes_below hs.inFrame (le_trans (by simp) hle)
    clients := nofun }

/-- A commit starts the emission with the pins as the idle serializer leaves them (R151, R180). -/
theorem inv_commitStart (hs : s.device.Inv) {h : Handle} {n : Nat} (hr : s.ready h) (hn : n < 2 ^ 16) :
    (commitStart h n s).device.Inv := by
  obtain ⟨hp, hb, hw⟩ := hr
  have hser : s.ser = .idle := hs.exclusive hp
  have hclk : s.clk = s.cfg.clkLevel (clkActive s.cfg s.ser) := hs.clkPin
  have hlat : s.lat = s.cfg.latLevel (latActive s.cfg s.ser) := hs.latPin
  refine { hs with
    held := ?_, exclusive := nofun, stepIndex := ?_, blanking := ?_, unblanked := nofun, clkPin := ?_, latPin := ?_
    clients := nofun }
  · rintro g m hg
    cases hg
    exact ⟨hb, hw, hn⟩
  · rintro k hk
    cases hk
    simp [Config.emissionSteps]
  · rintro k hk h0
    cases hk
    exact absurd h0 (lt_irrefl 0)
  · exact hclk.trans (by rw [hser]; rfl)
  · exact hlat.trans (by rw [hser]; rfl)

/-- Forcing the BLANK pin drives it to match (R39). -/
theorem inv_setBlank (hs : s.device.Inv) (b : Bool) : (setBlank b s).device.Inv :=
  { hs with blankPin := rfl, clients := nofun }

theorem pend_eq_none_of_not_isOpen (hs : s.device.Inv) {h : Handle} (ho : (s.slot h).isOpen = false) :
    (s.slot h).pend = none := by
  cases hp : (s.slot h).pend with
  | none => rfl
  | some w =>
    have hopen : (s.slot h).isOpen = true := (hs.waiters h w hp).1
    simp [ho] at hopen

theorem lt_maxHandles_of_waiting (hs : s.device.Inv) {h : Handle} (hw : s.waiting h = true) :
    h.toNat < s.cfg.maxHandles := by
  by_contra hlt
  have hslot : s.slot h = Slot.reset := hs.absent h (not_lt.1 hlt)
  simp [State.waiting, hslot, Slot.reset] at hw

/-- A waiter and the committing WRITE are never on the same handle. -/
theorem port_ne_of_waiting (hs : s.device.Inv) {h : Handle} (hw : s.waiting h = true) (n : Nat) : s.port ≠ .held h n := by
  intro hp
  have hnot : s.waiting h = false := (hs.held h n hp).2.1
  simp [hw] at hnot

/-- No transaction breaks the device's invariant. -/
theorem Effect.inv {w : Word} {t : State} (he : Effect w s t) (hs : s.device.Inv) : t.device.Inv := by
  have hu : (s.emit (.req w)).device.Inv := hs
  cases he with
  | held => exact hs
  | answered => exact hs
  | tuned => exact hs
  | blanked _ b => exact inv_setBlank hu b
  | opened h hp hf =>
    obtain ⟨hmem, ho⟩ := freeHandle_some hf
    exact inv_setSlot hu (mem_handleNumbers.1 hmem) (Nat.zero_le _) nofun (by simp [hp])
  | closed h hr => exact inv_setSlot_ready hu hr (hs.cursors h) rfl
  | moved h a n d hr ha => exact inv_setSlot_ready hu hr ha rfl
  | stored h a n p hr hle => exact inv_setSlot_ready (inv_writeBytes hu hle p) hr hle rfl
  | committed h a n p hr hle hn => exact inv_commitStart (inv_writeBytes hu hle p) hr hn
  | registered h len x hr hpos =>
    obtain ⟨hp, hb, -⟩ := hr
    obtain ⟨hh, ho⟩ := (State.bound_iff s h).1 hb
    refine inv_setSlot hu hh (hs.cursors h) (fun v hv => ?_) (by simp [hp])
    cases hv
    exact ⟨ho, hpos, rfl⟩
  | interrupted h hw =>
    exact inv_setSlot hu (lt_maxHandles_of_waiting hs hw) (hs.cursors h) nofun
      (fun n hp => absurd hp (port_ne_of_waiting hs hw n))

end

/-! ### Pin steps -/

section
variable {s : State} {k : Nat} {st : SerStep}

@[simp] theorem clkActive_idle (c : Config) : clkActive c .idle = false := rfl

@[simp] theorem latActive_idle (c : Config) : latActive c .idle = false := rfl

/-- CLK is active before step r of a pulse for r = 2 and r = 3 (R181), and never after the last pulse. -/
theorem clkActive_pulse {c : Config} {q r : Nat} (hq : q < c.pulses) (hr : r < 6) :
    clkActive c (.run (1 + 5 * q + r)) = decide (r = 2 ∨ r = 3) := by
  simp only [clkActive, decide_eq_decide]
  omega

theorem clkActive_latch (c : Config) (r : Nat) : clkActive c (.run (1 + 5 * c.pulses + r)) = false := by
  simp only [clkActive, decide_eq_false_iff_not]
  omega

/-- LAT is never active during the pulses, and it is before steps 1 and 2 of the latch pulse (R183). -/
theorem latActive_pulse {c : Config} {q r : Nat} (hq : q < c.pulses) (hr : r < 6) :
    latActive c (.run (1 + 5 * q + r)) = false := by
  simp only [latActive, decide_eq_false_iff_not]
  omega

theorem latActive_latch (c : Config) (r : Nat) : latActive c (.run (1 + 5 * c.pulses + r)) = decide (r = 1 ∨ r = 2) := by
  simp only [latActive, decide_eq_decide]
  omega

/-- Only a CLK step changes whether CLK is active (R181). -/
theorem clkActive_perform (hk : s.ser = .run k) (hst : emissionAt s k = some st) :
    clkActive s.cfg (perform k s st).ser = match st with
      | .clk a => a
      | _ => clkActive s.cfg s.ser := by
  rw [perform_ser, hk]
  obtain ⟨rfl, e⟩ | ⟨q, r, hq, hr, rfl, e⟩ | ⟨r, hr, rfl, e⟩ | ⟨-, e⟩ := emissionAt_cases s k <;> rw [e] at hst
  · cases hst
    simp [clkActive]
  · have now := clkActive_pulse hq (r := r) (by omega)
    have after := clkActive_pulse hq (r := r + 1) (by omega)
    interval_cases r <;> cases hst <;> simp_all [add_assoc]
  · have now := clkActive_latch s.cfg r
    have after := clkActive_latch s.cfg (r + 1)
    interval_cases r <;> cases hst <;> simp_all [add_assoc]
  · cases hst

/-- Only a LAT step changes whether LAT is active (R183). -/
theorem latActive_perform (hk : s.ser = .run k) (hst : emissionAt s k = some st) :
    latActive s.cfg (perform k s st).ser = match st with
      | .lat a => a
      | _ => latActive s.cfg s.ser := by
  rw [perform_ser, hk]
  obtain ⟨rfl, e⟩ | ⟨q, r, hq, hr, rfl, e⟩ | ⟨r, hr, rfl, e⟩ | ⟨-, e⟩ := emissionAt_cases s k <;> rw [e] at hst
  · cases hst
    simp [latActive]
  · have now := latActive_pulse hq (r := r) (by omega)
    have after := latActive_pulse hq (r := r + 1) (by omega)
    interval_cases r <;> cases hst <;> simp_all [add_assoc]
  · have now := latActive_latch s.cfg r
    have after := latActive_latch s.cfg (r + 1)
    interval_cases r <;> cases hst <;> simp_all [add_assoc]
  · cases hst

/-- A word that an emission puts on DOUT is a data word (R181). -/
theorem dataWord_of_emissionAt {w : DoutWord} (hst : emissionAt s k = some (.dout w)) : ∃ cc j, w = dataWord s cc j := by
  obtain ⟨-, e⟩ | ⟨q, r, -, hr, -, e⟩ | ⟨r, hr, -, e⟩ | ⟨-, e⟩ := emissionAt_cases s k <;> rw [e] at hst
  · cases hst
  · interval_cases r <;> cases hst
    exact ⟨_, _, rfl⟩
  · interval_cases r <;> cases hst
  · cases hst

end

/-- ORing one-bit words at the positions of a list sets a bit exactly where a listed position asks for it. -/
theorem getLsbD_foldl_or_shiftLeft (f : Nat → Bool) (l : List Nat) (w : DoutWord) (i : Nat) :
    (l.foldl (fun w p => w ||| ((if f p then (1 : DoutWord) else 0) <<< p)) w).getLsbD i
      = (w.getLsbD i || (decide (i < 64) && decide (i ∈ l) && f i)) := by
  induction l generalizing w with
  | nil => simp
  | cons p l ih =>
    have hbit : ((if f p then (1 : DoutWord) else 0) <<< p).getLsbD i = (decide (i < 64) && decide (i = p) && f i) := by
      by_cases e : i = p
      · subst e; cases f i <;> simp
      · by_cases hlt : i < p
        · simp [hlt, e]
        · have : i - p ≠ 0 := by omega
          cases f p <;> simp [e, hlt, this]
    rw [List.foldl_cons, ih, BitVec.getLsbD_or, hbit]
    by_cases e : i = p
    · subst e; cases f i <;> simp +contextual
    · simp [e]

/-- A bit of a data word outside LINES is 0 (R177, R186). -/
theorem dataWord_unlined {s : State} {i : Nat} (hi : i ∉ s.cfg.lines) (cc j : Nat) : (dataWord s cc j).getLsbD i = false := by
  rw [dataWord, getLsbD_foldl_or_shiftLeft]
  simp [hi]

theorem getLsbD_maskBits (w n i : Nat) : (maskBits w n).getLsbD i = (decide (i < w) && decide (i < n)) := by
  simp [maskBits, BitVec.getLsbD_ofNat, Nat.testBit_two_pow_sub_one]

/-- DLEVEL bit by bit (R185). -/
theorem getLsbD_dlevel {c : Config} (hd : c.doutW ≤ 64) (w : DoutWord) (i : Nat) :
    (c.dlevel w).getLsbD i = (w.getLsbD i ^^ (decide (i < c.doutW) && c.dataActiveLow)) := by
  cases ha : c.dataActiveLow
  · simp [Config.dlevel, ha]
  · simp [Config.dlevel, ha, getLsbD_maskBits]
    omega

/-- The level of logical 0 on DOUT (R39). -/
theorem getLsbD_dlevel_zero {c : Config} (hd : c.doutW ≤ 64) (i : Nat) :
    (c.dlevel 0).getLsbD i = (decide (i < c.doutW) && c.dataActiveLow) := by
  simp [getLsbD_dlevel hd]

theorem doutW_le_of_wf {c : Config} (hc : c.wf = true) : c.doutW ≤ 64 := by
  unfold Config.wf at hc
  simp only [decide_eq_true_eq] at hc
  omega

section
variable {s : State} {k : Nat} {st : SerStep}

theorem device_perform (k : Nat) (s : State) (st : SerStep) :
    (perform k s st).device
      = { s.device with
          blankSer := (perform k s st).blankSer, ser := (perform k s st).ser, dout := (perform k s st).dout,
          clk := (perform k s st).clk, lat := (perform k s st).lat, blank := (perform k s st).blank } := by
  cases st <;> rfl

/-- After a pin step the BLANK pin follows BLANK_FORCE and BLANK_SER (R39, R180, R184). -/
theorem perform_blankPin (hb : s.blank = s.cfg.blankLevel s.blanked) :
    (perform k s st).blank = s.cfg.blankLevel (s.blankForce || (perform k s st).blankSer) := by
  rw [perform_blank, perform_blankSer]
  cases st <;> simp [hb, State.blanked]

/-- The matrix is blanked after every step of the emission but the last (R180, R184). -/
theorem perform_blanking (hb : 0 < k → s.blankSer = true) (hst : emissionAt s k = some st) (hne : st ≠ .finish) :
    (perform k s st).blankSer = true := by
  rw [perform_blankSer]
  obtain rfl | hk := Nat.eq_zero_or_pos k
  · cases hst; rfl
  · cases st <;> simp_all

/-- A pin step leaves the bits outside LINES at the level of logical 0 (R39, R186). -/
theorem perform_unwired (hd : s.cfg.doutW ≤ 64) (hst : emissionAt s k = some st) {i : Nat} (hi : i ∉ s.cfg.lines)
    (hu : s.dout.getLsbD i = (decide (i < s.cfg.doutW) && s.cfg.dataActiveLow)) :
    (perform k s st).dout.getLsbD i = (decide (i < s.cfg.doutW) && s.cfg.dataActiveLow) := by
  rw [perform_dout]
  cases st
  case dout w =>
    obtain ⟨cc, j, rfl⟩ := dataWord_of_emissionAt hst
    simp [getLsbD_dlevel hd, dataWord_unlined hi]
  all_goals exact hu

/-- No pin step breaks the device's invariant. -/
theorem perform_inv (hs : s.device.Inv) (hk : s.ser = .run k) (hst : emissionAt s k = some st) :
    (perform k s st).device.Inv := by
  have hser := perform_ser k s st
  have hlt : k < s.cfg.emissionSteps := hs.stepIndex k hk
  rw [device_perform]
  refine { hs with
    exclusive := fun hp => ?_, stepIndex := fun m hm => ?_, blankPin := perform_blankPin hs.blankPin
    blanking := fun m hm _ => ?_, unblanked := fun h n hp hi => ?_
    clkPin := ?_, latPin := ?_, unwired := fun i hi => ?_, clients := nofun }
  · have hidle : s.ser = .idle := hs.exclusive hp
    simp [hk] at hidle
  · change (perform k s st).ser = .run m at hm
    split_ifs at hser with hf
    · simp [hser] at hm
    · have hne : k + 1 ≠ s.cfg.emissionSteps := fun h => hf (by simpa [hst] using (emissionAt_eq_finish s k).2 h)
      obtain rfl : k + 1 = m := by simpa [hser] using hm
      exact lt_of_le_of_ne hlt hne
  · refine perform_blanking (hs.blanking k hk) hst ?_
    rintro rfl
    exact absurd hm nofun
  · change (perform k s st).ser = .idle at hi
    have hf : st = .finish := by simpa [hser] using hi
    subst hf; rfl
  · change (perform k s st).clk = s.cfg.clkLevel (clkActive s.cfg (perform k s st).ser)
    have hclk : s.clk = s.cfg.clkLevel (clkActive s.cfg s.ser) := hs.clkPin
    rw [clkActive_perform hk hst, perform_clk]
    cases st
    case clk => rfl
    all_goals exact hclk
  · change (perform k s st).lat = s.cfg.latLevel (latActive s.cfg (perform k s st).ser)
    have hlat : s.lat = s.cfg.latLevel (latActive s.cfg s.ser) := hs.latPin
    rw [latActive_perform hk hst, perform_lat]
    cases st
    case lat => rfl
    all_goals exact hlat
  · have hd : s.cfg.doutW ≤ 64 := doutW_le_of_wf hs.config
    exact perform_unwired hd hst hi (hs.unwired i hi)

end

/-! ### The frame-ready step -/

section
variable {s : State}

@[simp] theorem completedSlot_pend (s : State) (v : Slot) : (completedSlot s v).pend = none := by
  unfold completedSlot
  split <;> simp_all

theorem completedSlot_pos_le {v : Slot} (hv : v.pos ≤ s.fbBytes) : (completedSlot s v).pos ≤ s.fbBytes := by
  unfold completedSlot
  split
  · exact hv
  · change (if _ then _ else _) ≤ _
    split_ifs
    · exact hv
    · exact min_le_right ..

/-- The release ends every wait: a slot at MAX_HANDLES or above had none (R154). -/
theorem releaseWaiters_pend (hs : s.device.Inv) (g : Handle) :
    ((releaseWaiters (countFrame s)).slot g).pend = none := by
  rw [releaseWaiters_countFrame_slot]
  split_ifs with hg
  · exact completedSlot_pend ..
  · have hslot : s.slot g = Slot.reset := hs.absent g (not_lt.1 hg)
    rw [hslot]; rfl

theorem device_frameReady (h : Handle) (n : Nat) (s : State) :
    (frameReady h n s).device
      = { s.device with
          slots := (frameReady h n s).slots, cnt := (s.cnt + 1) % 2 ^ s.cfg.cntW, port := .idle } := by
  have same := releaseWaiters_countFrame_same s
  simp [State.device, frameReady, same.cfg, same.mem, same.cnt, same.blankForce, same.blankSer, same.ser, same.dout, same.clk,
    same.lat, same.blank]

/-- The frame-ready step keeps the device's invariant: no waiter is left that observed the old count. -/
theorem frameReady_inv (hs : s.device.Inv) {h : Handle} {n : Nat} (hp : s.port = .held h n) (hser : s.ser = .idle) :
    (frameReady h n s).device.Inv := by
  have hslot := frameReady_slot h n s
  have hrel := releaseWaiters_countFrame_slot s
  rw [device_frameReady]
  refine { hs with
    counter := Nat.mod_lt _ (by positivity)
    cursors := fun g => ?_, absent := fun g hg => ?_, waiters := fun g w hw => ?_, held := nofun, exclusive := fun _ => hser
    unblanked := nofun, clients := nofun }
  · change ((frameReady h n s).slot g).pos ≤ s.fbBytes
    rw [hslot]
    split_ifs
    · exact Nat.zero_le _
    · rw [hrel]
      split_ifs
      · exact completedSlot_pos_le (hs.cursors g)
      · exact hs.cursors g
  · have hne : g ≠ h := by
      rintro rfl
      exact absurd (State.bound_iff s g |>.1 (hs.held g n hp).1).1 (not_lt.2 hg)
    exact (hslot g).trans ((if_neg hne).trans ((hrel g).trans ((if_neg (not_lt.2 hg)).trans (hs.absent g hg))))
  · change ((frameReady h n s).slot g).pend = some w at hw
    rw [hslot] at hw
    split_ifs at hw <;> simp [releaseWaiters_pend hs] at hw

end

/-! ### The invariant -/

theorem Move.inv {s t : State} (hm : Move s t) (hs : s.device.Inv) : t.device.Inv := by
  cases hm with
  | rest => exact hs
  | transaction he => exact he.inv hs
  | pin hk hst => exact perform_inv hs hk hst
  | frame hp hk => exact frameReady_inv hs hp hk

/-- Settles O54: every move keeps the clauses on the device, and settling the clients gives back the clause on them. -/
theorem stepKeepsInvariant : Obligations.StepKeepsInvariant := by
  intro s t hs h
  obtain rfl | ⟨cs, q, d, ds, v, hm, rfl, -⟩ := step_move h
  · exact hs
  · exact settle_inv (s := { v with clients := ds }) (hm.inv hs.device)

/-- Reset satisfies every clause: nothing is open, held or running, and each pin is at its idle level (R20, R39). -/
theorem resetWith_inv {c : Config} (hc : c.wf = true) : (State.resetWith c).Inv where
  config := hc
  canonical := Memory.wf_nil
  inFrame := nofun
  counter := by change 0 < 2 ^ c.cntW; positivity
  cursors h := by simp [State.slot, State.resetWith, Slot.reset]
  absent h _ := by simp [State.slot, State.resetWith]
  waiters h w hw := by simp [State.slot, State.resetWith, Slot.reset] at hw
  held := nofun
  exclusive _ := rfl
  stepIndex := nofun
  blankPin := rfl
  blanking := nofun
  unblanked := nofun
  clkPin := rfl
  latPin := rfl
  unwired i _ := getLsbD_dlevel_zero (doutW_le_of_wf hc) i
  clients := nofun

/-- Settles O8; the default configuration is well formed by evaluation. -/
theorem resetSatisfiesInvariant : Obligations.ResetSatisfiesInvariant :=
  ⟨fun _ => resetWith_inv, resetWith_inv (by decide)⟩

end Sys2Proof.Machine
end

section
/-! SUPPORT. The step of each agent, and what a client sees of it. -/

namespace Sys2Proof.Machine

/-! ### The client that is next -/

section
variable {s : State} {k : Nat} {c : Client} {r : Request}

/-- The client presents a framed request that can be admitted, and it is run. -/
theorem clientStep_run (hc : s.clients[k]? = some c) (hp : c.presents = some r) (ha : admissible s r = true)
    (hf : r.framed = true) :
    clientStep k s = mapNext (noteWait k (headerHandle r.header) s) (runRequest r (s.takeRequest k)) := by
  simp [clientStep, hc, hp, ha, hf]

/-- The client presents a request that cannot be admitted, and waits. -/
theorem clientStep_rest (hc : s.clients[k]? = some c) (hp : c.presents = some r) (ha : admissible s r = false) :
    clientStep k s = .next s := by
  simp [clientStep, hc, hp, ha]

end

theorem mapNext_mapNext (f g : State → State) (o : Result) : mapNext f (mapNext g o) = mapNext (fun s => f (g s)) o := by
  cases o <;> rfl

/-- CTRL names the handle of its header, whatever its command. -/
theorem handle_decodeCtrl (h : Handle) (cmd : BitVec 4) (len : Half) (p : List Byte) (x : Bool) :
    (decodeCtrl h cmd len p x).handle = h := by
  unfold decodeCtrl
  split_ifs <;> rfl

/-- A transaction names the handle of its request's header (R93). -/
theorem headerHandle_of_decodeRequest {r : Request} {i : Instr} (hd : decodeRequest r = .ok i) :
    headerHandle r.header = i.handle := by
  unfold decodeRequest at hd
  simp only at hd
  split_ifs at hd <;> cases hd
  · next h => exact h.1
  · rfl
  · rfl
  · rfl
  · exact (handle_decodeCtrl ..).symm
  · rfl

/-- An ILLEGAL request is answered, and nothing else changes (R226). -/
theorem runRequest_illegal {s : State} {r : Request} {e : DecodeError} (hd : decodeRequest r = .error e) (hp : s.port = .idle) :
    runRequest r s = .next ((s.emit (.req r.header)).respond .illegal (headerHandle r.header) 0 []) := by
  simp only [runRequest, hd]
  exact illegalRequest_idle hp

/-- A client's ILLEGAL request is answered at once, so that the client does not wait. -/
theorem clientStep_illegal {s : State} {k : Nat} {c : Client} {r : Request} {e : DecodeError} (hc : s.clients[k]? = some c)
    (hp : c.presents = some r) (hport : s.port = .idle) (hf : r.framed = true) (hd : decodeRequest r = .error e) :
    clientStep k s
      = .next (((s.takeRequest k).emit (.req r.header)).respond .illegal (headerHandle r.header) 0 []) := by
  have ha : admissible s r = true := by simp [admissible, hport]
  rw [clientStep_run hc hp ha hf, runRequest_illegal (s := s.takeRequest k) hd hport]
  simp [mapNext, noteWait]

/-! ### What a client sees -/

theorem Client.release_of_waits {s : State} {c : Client} {h : Handle} (hw : c.waits = some h) :
    c.release s = { c with waits := if s.outstanding h = true then some h else none } := by
  unfold Client.release
  rw [hw]
  simp only
  split_ifs
  · rw [← hw]
  · rfl

theorem settle_getElem? (s : State) (j : Nat) : (settle s).clients[j]? = s.clients[j]?.map (Client.release s) :=
  List.getElem?_map ..

/-! ### A transaction that ends is answered -/

/-- A response for handle h has been recorded between `s` and `t`. -/
def Answered (h : Handle) (s t : State) : Prop :=
  ∃ l st n d, t.trace = s.trace ++ l ∧ .resp (responseWord st h n) d ∈ l

section
variable {s : State} {h : Handle}

theorem State.outstanding_iff : s.outstanding h = true ↔ s.waiting h = true ∨ ∃ n, s.port = .held h n := by
  unfold State.outstanding
  cases hp : s.port with
  | idle => simp
  | held g n => simp

/-- A slot that keeps its waiter, or its lack of one, leaves what is outstanding as it is. -/
theorem outstanding_setSlot {g : Handle} {v : Slot} (hv : v.pend = (s.slot g).pend) :
    (s.setSlot g v).outstanding h = s.outstanding h := by
  have hw : (s.setSlot g v).waiting h = s.waiting h := by
    by_cases e : h = g
    · subst e; simp [State.waiting, hv]
    · simp [State.waiting, State.slot_setSlot_ne s v e]
  simp [State.outstanding, hw]

@[simp] theorem State.outstanding_setPos (s : State) (g h : Handle) (a : Nat) :
    (s.setPos g a).outstanding h = s.outstanding h := outstanding_setSlot rfl

@[simp] theorem State.outstanding_setOpen (s : State) (g h : Handle) (b : Bool) :
    (s.setOpen g b).outstanding h = s.outstanding h := outstanding_setSlot rfl

/-- Among the transactions only CANCEL ends one that is outstanding, and it records INTERRUPTED for it (R128). -/
theorem Effect.outstanding_or_answered {w : Word} {t : State} (he : Effect w s t) (hs : s.device.Inv)
    (ho : s.outstanding h = true) : t.outstanding h = true ∨ Answered h s t := by
  have waiting_of_idle (hp : s.port = .idle) : s.waiting h = true := by simpa [State.outstanding_iff, hp] using ho
  cases he with
  | held => exact .inl ho
  | answered => exact .inl ho
  | tuned => exact .inl ho
  | blanked => exact .inl ho
  | opened g _ hf =>
    exact .inl ((outstanding_setSlot (pend_eq_none_of_not_isOpen hs (freeHandle_some hf).2).symm).trans ho)
  | closed => exact .inl (by simpa using ho)
  | moved => exact .inl (by simpa using ho)
  | stored => exact .inl (by rw [State.outstanding_respond, State.outstanding_setPos]; exact ho)
  | committed g _ _ _ hr => exact .inl (State.outstanding_iff.2 (.inl (waiting_of_idle hr.1)))
  | registered g len x hr =>
    refine .inl (State.outstanding_iff.2 (.inl ?_))
    rw [register, State.waiting_setPend]
    split_ifs
    · rfl
    · exact waiting_of_idle hr.1
  | interrupted g hw =>
    by_cases e : h = g
    · subst e
      exact .inr ⟨_, .interrupted, 0, [], by simp; rfl, by simp⟩
    · left
      have hkeep : ((s.emit (.req w)).setPend g none).waiting h = s.waiting h := by simp [State.waiting_setPend, e]
      simpa [State.outstanding_iff, hkeep] using ho

/-- The frame-ready step answers every waiter and the committing WRITE (R153). -/
theorem frameReady_answered (hs : s.device.Inv) {g : Handle} {n : Nat} (hp : s.port = .held g n)
    (ho : s.outstanding h = true) : Answered h s (frameReady g n s) := by
  obtain hw | ⟨m, hm⟩ := State.outstanding_iff.1 ho
  · obtain ⟨w, hw'⟩ := Option.isSome_iff_exists.1 hw
    have hmem : waiterEvent s h w ∈ waiterEvents s :=
      List.mem_filterMap.2 ⟨h, mem_handleNumbers.2 (lt_maxHandles_of_waiting hs hw), by simp [hw']⟩
    obtain ⟨st, k, d, he⟩ : ∃ st k d, waiterEvent s h w = .resp (responseWord st h k) d := by
      unfold waiterEvent
      split_ifs
      · exact ⟨_, _, _, rfl⟩
      · exact ⟨_, _, _, rfl⟩
    exact ⟨_, st, k, d, frameReady_trace .., by simp [← he, hmem]⟩
  · obtain ⟨rfl, rfl⟩ : g = h ∧ n = m := by simpa [hp] using hm
    exact ⟨_, .ok, n, [], frameReady_trace .., by simp⟩

theorem Move.outstanding_or_answered {t : State} (hm : Move s t) (hs : s.device.Inv) (ho : s.outstanding h = true) :
    t.outstanding h = true ∨ Answered h s t := by
  cases hm with
  | rest => exact .inl ho
  | transaction he => exact he.outstanding_or_answered hs ho
  | pin => exact .inl (by simpa using ho)
  | frame hp => exact .inr (frameReady_answered hs hp ho)

end

/-! ### The step of the client that is next -/

section
variable {s : State} {k : Nat} {c : Client} {r : Request} {i : Instr}

theorem step_transaction (hwf : s.cfg.wf = true) (hn : nextChoice s = some (.client k)) (hc : s.clients[k]? = some c)
    (hp : c.presents = some r) (ha : admissible s r = true) (hf : r.framed = true) (hd : decodeRequest r = .ok i) :
    step s = mapNext (fun t => settle (noteWait k i.handle s t))
      (exec i (State.takeRequest { s with sched := s.sched.tail } k)) := by
  rw [step_of_choice hwf hn, agentStep, clientStep_run (s := { s with sched := s.sched.tail }) hc hp ha hf, mapNext_mapNext,
    headerHandle_of_decodeRequest hd]
  simp only [runRequest, hd]
  rfl

/-- After its transaction, client k waits exactly when that has started without a response (R10). -/
theorem settle_noteWait_getElem? {t : State} {h : Handle} (ht : t.clients[k]? = some ⟨c.script.tail, none⟩) :
    (settle (noteWait k h s t)).clients[k]?
      = some ⟨c.script.tail, if t.outstanding h = true ∧ s.outstanding h = false then some h else none⟩ := by
  rw [settle_getElem?, noteWait]
  by_cases ho : t.outstanding h = true ∧ s.outstanding h = false
  · obtain ⟨ho, hs⟩ := ho
    have hkeep : State.outstanding { t with clients := t.clients.modify k fun c => { c with waits := some h } } h = true := ho
    simp [ht, ho, hs, Client.release, hkeep]
  · rw [if_neg (by simpa using ho), if_neg ho, ht]
    rfl

theorem takeRequest_getElem? (hc : s.clients[k]? = some c) (hw : c.waits = none) :
    (s.takeRequest k).clients[k]? = some ⟨c.script.tail, none⟩ := by
  simp [hc, hw]

/-- A client that waits keeps its script, and waits on while its transaction is outstanding (R10). -/
theorem step_waiting_client {t : State} {j : Nat} {h : Handle} (hs : s.Inv) (hc : s.clients[j]? = some c)
    (hw : c.waits = some h) (hst : step s = .next t) :
    t.clients[j]? = some { c with waits := if t.outstanding h = true then some h else none }
    ∧ (t.outstanding h = false → Answered h s t) := by
  have ho : s.outstanding h = true := hs.clients c (List.mem_of_getElem? hc) h hw
  obtain rfl | ⟨cs, q, d, ds, v, hm, rfl, hds⟩ := step_move hst
  · exact ⟨by rw [hc, if_pos ho, ← hw], fun hn => by simp [ho] at hn⟩
  · refine ⟨?_, fun hn => ?_⟩
    · rw [settle_getElem?]
      simp only [hds j c h hc hw, Option.map_some, Client.release_of_waits hw]
      rfl
    · exact (hm.outstanding_or_answered hs.device ho).resolve_left (Bool.eq_false_iff.1 hn)

end

/-- Settles O52: the step runs the decoded transaction; noting a wait and settling touch only the clients; and a client that
waits keeps waiting until a response for its handle is recorded. -/
theorem stepRunsTheTransaction : Obligations.StepRunsTheTransaction := by
  refine ⟨fun s k c r i hwf hn hc hp ha hf hd => ?_, fun s t k h => ?_, fun s t j c h hs hc hw hst => ?_⟩
  · have hrun := step_transaction hwf hn hc hp ha hf hd
    refine ⟨hrun, fun t ht => ?_⟩
    obtain ⟨v, hv, rfl⟩ := mapNext_eq_next.1 (hrun.symm.trans ht)
    have hclient : v.clients[k]? = some ⟨c.script.tail, none⟩ := by
      rw [(exec_effect hv).clients]
      exact takeRequest_getElem? (s := { s with sched := s.sched.tail }) hc (waits_of_presents hp)
    rw [settle_noteWait_getElem? hclient]
    simp
  · unfold noteWait
    split <;> rfl
  · exact ⟨by simp [Client.presents, hw], step_waiting_client hs hc hw hst⟩

/-- Settles O53: for each choice, the step of the machine is the chosen agent's step, settled. -/
theorem stepOfOtherChoices : Obligations.StepOfOtherChoices := by
  refine ⟨fun s k c r e hwf hn hc hp hport hf hd => ?_, fun s k c r hwf hn hc hp ha => ?_, fun s h rest hwf hn hirq => ?_,
    fun s t hwf hn ht => ?_, fun s t hwf hn ht => ?_⟩
  · rw [step_of_choice hwf hn, agentStep, clientStep_illegal (s := { s with sched := s.sched.tail }) hc hp hport hf hd]
    rfl
  · rw [step_of_choice hwf hn, agentStep, clientStep_rest (s := { s with sched := s.sched.tail }) hc hp ha]
    rfl
  · rw [step_of_choice hwf hn, agentStep, interruptStep]
    simp only [hirq]
  · rw [step_of_choice hwf hn, agentStep, ht]
    rfl
  · rw [step_of_choice hwf hn, agentStep, ht]
    rfl

end Sys2Proof.Machine
end

section
/-! SUPPORT. What follows from the configuration alone: the bits of the default gamma table, the pins at reset, and the map of
the lines onto the rows. -/

namespace Sys2Proof

/-! ### The default gamma table -/

/-- The number that `revBits` adds up: bit i is `f i` for i < m, and 0 above. -/
def bitSum (f : Nat → Bool) (m : Nat) : Nat := (List.range m).foldl (fun a i => a + if f i then 2 ^ i else 0) 0

theorem revBits_eq_bitSum (n v : Nat) : revBits n v = bitSum (fun i => v.testBit (n - 1 - i)) n := rfl

theorem bitSum_succ (f : Nat → Bool) (m : Nat) : bitSum f (m + 1) = bitSum f m + if f m then 2 ^ m else 0 := by
  simp [bitSum, List.range_succ]

theorem bitSum_lt (f : Nat → Bool) (m : Nat) : bitSum f m < 2 ^ m := by
  induction m with
  | zero => simp [bitSum]
  | succ m ih => rw [bitSum_succ, pow_succ]; split_ifs <;> omega

theorem testBit_bitSum (f : Nat → Bool) (m b : Nat) : (bitSum f m).testBit b = (decide (b < m) && f b) := by
  induction m with
  | zero => simp [bitSum]
  | succ m ih =>
    have top : bitSum f (m + 1) = 2 ^ m * (f m).toNat + bitSum f m := by
      rw [bitSum_succ]; cases f m <;> simp [add_comm]
    rw [top, Nat.testBit_two_pow_mul_add _ (bitSum_lt f m), ih]
    obtain h | rfl | h := lt_trichotomy b m
    · simp [h, Nat.lt_succ_of_lt h]
    · cases f b <;> simp
    · obtain ⟨d, rfl⟩ : ∃ d, b = m + (d + 1) := ⟨b - m - 1, by omega⟩
      cases f m <;> simp [Nat.testBit_succ]

/-- The n-bit reversal bit by bit (R13). -/
theorem testBit_revBits (n v b : Nat) : (revBits n v).testBit b = (decide (b < n) && v.testBit (n - 1 - b)) := by
  rw [revBits_eq_bitSum, testBit_bitSum]

theorem getLsbD_defaultGamma {n : Nat} (hn : n ≤ 16) (i : Fin 256) (b : Nat) :
    ((defaultGamma n)[i]).getLsbD b = (decide (b < n) && (roundRamp n i.val).testBit (n - 1 - b)) := by
  simp only [defaultGamma, Fin.getElem_fin, Vector.getElem_ofFn, BitVec.getLsbD_ofNat, testBit_revBits]
  by_cases hb : b < n
  · simp [show b < 16 by omega]
  · simp [hb]

/-- `roundRamp` is the nearest integer; the numerator 2 * (2^n - 1) * i + 255 is odd, so it is no multiple of 510 and there is
no tie (R31). -/
theorem roundRamp_nearest (n i : Nat) :
    510 * roundRamp n i < 2 * ((2 ^ n - 1) * i) + 255 ∧ 2 * ((2 ^ n - 1) * i) < 510 * roundRamp n i + 255 := by
  unfold roundRamp
  omega

theorem roundRamp_twelve (i : Nat) : roundRamp 12 i = 16 * i + (2 * i + 17) / 34 := by
  have h : roundRamp 12 i = (2 * (4095 * i) + 255) / 510 := rfl
  omega

/-- Settles O10: the reversal bit by bit, and the rounding by the parity of its numerator. -/
theorem defaultGammaTable : Obligations.DefaultGammaTable :=
  ⟨fun _ _ => rfl, fun _ i b hn => getLsbD_defaultGamma hn i b, roundRamp_nearest, fun i _ => roundRamp_twelve i⟩

/-! ### Pins at reset -/

/-- Settles O7: DOUT carries logical 0 on its DOUT_W bits, and the other pins are driven at their idle level. -/
theorem resetPinLevels : Obligations.ResetPinLevels := by
  intro c hd
  have hdout (b : Nat) : (Machine.State.resetWith c).dout.getLsbD b = (decide (b < c.doutW) && c.dataActiveLow) :=
    Machine.getLsbD_dlevel_zero hd b
  refine ⟨fun b hb => ?_, fun b hb => ?_, rfl, rfl, rfl⟩
  · simp [hdout, hb, Config.dataLevel]
  · simp [hdout, hb]

/-! ### The map of the lines onto the rows -/

section
variable {c : Config} {p r : Nat}

theorem wiring_of_wf (hc : c.wf = true) : c.wiring.length = c.rows ∧ c.wiring.Nodup := by
  unfold Config.wf at hc
  simp only [decide_eq_true_eq] at hc
  obtain ⟨-, -, -, -, -, -, -, -, hlen, hnodup, -⟩ := hc
  exact ⟨hlen, hnodup⟩

/-- LROW of a line is the index at which WIRING lists it, or its mirror image under ROTATE (R36). -/
theorem lrow_of_wiring (hc : c.wf = true) (hr : c.wiring[r]? = some p) :
    c.lrow p = if c.rotate then c.rows - 1 - r else r := by
  obtain ⟨hlt, rfl⟩ := List.getElem?_eq_some_iff.1 hr
  simp only [Config.lrow, (wiring_of_wf hc).2.idxOf_getElem r hlt]

/-- Every line stands at one row of WIRING. -/
theorem wiring_of_mem_lines (hc : c.wf = true) (hp : p ∈ c.lines) : ∃ r, r < c.rows ∧ c.wiring[r]? = some p := by
  obtain ⟨r, hr⟩ := List.mem_iff_getElem?.1 hp
  obtain ⟨hlt, -⟩ := List.getElem?_eq_some_iff.1 hr
  exact ⟨r, (wiring_of_wf hc).1 ▸ hlt, hr⟩

theorem lrow_lt (hc : c.wf = true) (hp : p ∈ c.lines) : c.lrow p < c.rows := by
  obtain ⟨r, hlt, hr⟩ := wiring_of_mem_lines hc hp
  rw [lrow_of_wiring hc hr]
  split_ifs <;> omega

theorem lrow_injective {q : Nat} (hc : c.wf = true) (hp : p ∈ c.lines) (hq : q ∈ c.lines) (h : c.lrow p = c.lrow q) :
    p = q := by
  obtain ⟨i, hi, hip⟩ := wiring_of_mem_lines hc hp
  obtain ⟨j, hj, hjq⟩ := wiring_of_mem_lines hc hq
  rw [lrow_of_wiring hc hip, lrow_of_wiring hc hjq] at h
  have hij : i = j := by split_ifs at h <;> omega
  simpa [hip, ← hij] using hjq

/-- Row r is carried by the line at index r of WIRING, or at its mirror image under ROTATE. -/
theorem lrow_surjective (hc : c.wf = true) (hr : r < c.rows) : ∃ p, p ∈ c.lines ∧ c.lrow p = r := by
  obtain ⟨i, hi, hir⟩ : ∃ i, i < c.wiring.length ∧ (if c.rotate then c.rows - 1 - i else i) = r := by
    rw [(wiring_of_wf hc).1]
    cases c.rotate
    · exact ⟨r, hr, rfl⟩
    · exact ⟨c.rows - 1 - r, by omega, by simp; omega⟩
  exact ⟨c.wiring[i], List.getElem_mem hi, (lrow_of_wiring hc (List.getElem?_eq_getElem hi)).trans hir⟩

end

/-- Settles O12: WIRING lists ROWS different lines, and the mirror image under ROTATE is a bijection of the rows. -/
theorem rowMapIsBijection : Obligations.RowMapIsBijection := fun _ hc =>
  ⟨fun _ _ => lrow_of_wiring hc, fun _ => lrow_lt hc, fun _ _ => lrow_injective hc, fun _ => lrow_surjective hc⟩

end Sys2Proof
end

section
/-! SUPPORT. The list EMIT: what it depends on, and its entries by index. -/

namespace Sys2Proof.Machine

/-! ### What an emission depends on -/

/-- An emission sees the gamma table only through CODE (R176). -/
theorem dataWord_congr_code {s t : State} (hcfg : t.cfg = s.cfg) (hmem : t.mem = s.mem) (hcode : ∀ v, code t v = code s v)
    (cc j : Nat) : dataWord t cc j = dataWord s cc j := by
  have hline : lineBit t cc j = lineBit s cc j := by
    funext p
    simp only [lineBit, pix, hcfg, hmem, hcode]
  rw [dataWord, dataWord, hcfg, hline]

theorem emission_congr_code {s t : State} (hcfg : t.cfg = s.cfg) (hmem : t.mem = s.mem) (hcode : ∀ v, code t v = code s v) :
    emission t = emission s := by
  simp only [emission, hcfg, dataWord_congr_code hcfg hmem hcode]

/-- A code bit by bit: the entry's bits below GAMMA_BITS (R176). -/
theorem getLsbD_code (s : State) (v : Byte) {b : Nat} (hb : b < 16) :
    (code s v).getLsbD b = ((s.gt[v.toFin]).getLsbD b && decide (b < s.cfg.gammaBits)) := by
  rw [code, BitVec.getLsbD_and, getLsbD_maskBits]
  simp [hb]

/-- Settles O15: the mask of CODE keeps only the bits on which the two tables agree. -/
theorem highGammaBitsAreIgnored : Obligations.HighGammaBitsAreIgnored := by
  intro s g hagree
  refine emission_congr_code rfl rfl fun v => BitVec.eq_of_getLsbD_eq fun b hlt => ?_
  rw [getLsbD_code _ v hlt, getLsbD_code _ v hlt]
  by_cases hb : b < s.cfg.gammaBits
  · simp only [hagree _ b hb]
  · simp [hb]

/-! ### The entries of EMIT by index -/

/-- Entry i of a concatenation of blocks of one length is found by division. -/
theorem getElem?_flatMap_of_length {α β : Type} {f : α → List β} {n : Nat} (hn : 0 < n) (hf : ∀ a, (f a).length = n)
    (l : List α) (i : Nat) : (l.flatMap f)[i]? = l[i / n]?.bind fun a => (f a)[i % n]? := by
  induction l generalizing i with
  | nil => simp
  | cons a l ih =>
    rw [List.flatMap_cons]
    by_cases hi : i < n
    · rw [List.getElem?_append_left (by rw [hf]; exact hi), Nat.div_eq_of_lt hi, Nat.mod_eq_of_lt hi]
      rfl
    · have hle : n ≤ i := not_lt.1 hi
      rw [List.getElem?_append_right (by rw [hf]; exact hle), hf, ih, Nat.div_eq_sub_div hn hle, Nat.mod_eq_sub_mod hle]
      rfl

/-- CC_ORDER lists CC_AT in order (R171). -/
theorem ccOrder_eq_map (c : Config) : c.ccOrder = (List.range (3 * c.cols)).map c.ccAt := by
  refine List.ext_getElem? fun q => ?_
  unfold Config.ccOrder Config.ccAt
  cases c.rotate
  · by_cases hq : q < 3 * c.cols <;> simp [hq]
  · simp

/-- The pulses of one column-component: a pulse for each of its NATIVE_BITS bits (R180). -/
def ccSteps (s : State) (cc : Nat) : List SerStep :=
  (List.range s.cfg.nativeBits).flatMap fun j => pulseSteps (dataWord s cc j)

/-- All the pulses of an emission (R182). -/
def pulseList (s : State) : List SerStep := (List.range (3 * s.cfg.cols)).flatMap fun q => ccSteps s (s.cfg.ccAt q)

theorem emission_eq_pulseList (s : State) : emission s = .blankOn :: (pulseList s ++ (latchSteps ++ [.finish])) := by
  simp [emission, pulseList, ccSteps, ccOrder_eq_map, List.flatMap_map]

@[simp] theorem length_pulseSteps (w : DoutWord) : (pulseSteps w).length = 5 := rfl

@[simp] theorem length_ccSteps (s : State) (cc : Nat) : (ccSteps s cc).length = 5 * s.cfg.nativeBits := by
  simp [ccSteps, List.length_flatMap, mul_comm]

@[simp] theorem length_pulseList (s : State) : (pulseList s).length = 5 * s.cfg.pulses := by
  simp [pulseList, List.length_flatMap, Config.pulses]
  ring

/-- Step r of pulse j of a column-component. -/
theorem getElem?_ccSteps {s : State} {j r : Nat} (cc : Nat) (hj : j < s.cfg.nativeBits) (hr : r < 5) :
    (ccSteps s cc)[5 * j + r]? = (pulseSteps (dataWord s cc j))[r]? := by
  have hdiv : (5 * j + r) / 5 = j := by omega
  have hmod : (5 * j + r) % 5 = r := by omega
  rw [ccSteps, getElem?_flatMap_of_length (by decide) (fun _ => length_pulseSteps _), hdiv, hmod, List.getElem?_range hj]
  rfl

/-- Step r of pulse q of the emission, which belongs to the column-component at place q / D of CC_ORDER (R180). -/
theorem getElem?_pulseList {s : State} {q r : Nat} (hq : q < s.cfg.pulses) (hr : r < 5) :
    (pulseList s)[5 * q + r]?
      = (pulseSteps (dataWord s (s.cfg.ccAt (q / s.cfg.nativeBits)) (q % s.cfg.nativeBits)))[r]? := by
  have hD : 0 < s.cfg.nativeBits := Nat.pos_of_mul_pos_left (lt_of_le_of_lt (Nat.zero_le q) hq)
  have hdiv5 : (5 * q + r) / 5 = q := by omega
  have hdiv : (5 * q + r) / (5 * s.cfg.nativeBits) = q / s.cfg.nativeBits := by rw [← Nat.div_div_eq_div_mul, hdiv5]
  have hmod : (5 * q + r) % (5 * s.cfg.nativeBits) = 5 * (q % s.cfg.nativeBits) + r := by
    rw [Nat.mod_mul, hdiv5]; omega
  have hplace : q / s.cfg.nativeBits < 3 * s.cfg.cols := Nat.div_lt_of_lt_mul (by rwa [mul_comm])
  rw [pulseList, getElem?_flatMap_of_length (by omega) (fun _ => length_ccSteps ..), hdiv, hmod, List.getElem?_range hplace]
  exact getElem?_ccSteps _ (Nat.mod_lt _ hD) hr

/-- Settles O17: the step at each index, by the part of EMIT that the index falls in. -/
theorem serializerFollowsEmit : Obligations.SerializerFollowsEmit := by
  intro s k _
  rw [emission_eq_pulseList, eq_comm]
  obtain ⟨rfl, e⟩ | ⟨q, r, hq, hr, rfl, e⟩ | ⟨r, hr, rfl, e⟩ | ⟨hk, e⟩ := emissionAt_cases s k <;> rw [e]
  · rfl
  · rw [show 1 + 5 * q + r = (5 * q + r) + 1 by omega, List.getElem?_cons_succ,
      List.getElem?_append_left (by rw [length_pulseList]; omega), getElem?_pulseList hq hr]
  · rw [show 1 + 5 * s.cfg.pulses + r = (5 * s.cfg.pulses + r) + 1 by omega, List.getElem?_cons_succ,
      List.getElem?_append_right (by rw [length_pulseList]; omega), length_pulseList, Nat.add_sub_cancel_left]
  · refine List.getElem?_eq_none ?_
    unfold Config.emissionSteps at hk
    simp only [List.length_cons, List.length_append, length_pulseList, latchSteps, List.length_nil]
    omega

end Sys2Proof.Machine
end

section
/-! SUPPORT. What each transaction can do, with the values that it writes: `Effect` tied to the transaction's own operands. -/

namespace Sys2Proof.Machine

/-- The copy of a WRITE: the payload goes to the bytes from its start address on (R124). -/
def storeBytes (h : Handle) (len : Half) (p : List Byte) (s : State) : State :=
  { s with mem := s.mem.writeBytes (writeAddr s h) (p.take (transferLen s len (writeAddr s h))) }

section
variable (h : Handle) (len : Half) (p : List Byte) (s : State)

@[simp] theorem storeBytes_trace : (storeBytes h len p s).trace = s.trace := rfl

@[simp] theorem storeBytes_slot (g : Handle) : (storeBytes h len p s).slot g = s.slot g := rfl

/-- The copy reaches no byte outside its n bytes (R124). -/
theorem storeBytes_read_outside (hwf : s.mem.wf) {b : Nat}
    (hb : ¬ (writeAddr s h ≤ b ∧ b < writeAddr s h + transferLen s len (writeAddr s h))) :
    (storeBytes h len p s).mem.read b = s.mem.read b := by
  have hlen := List.length_take_le (transferLen s len (writeAddr s h)) p
  exact (Memory.read_writeBytes hwf ..).trans (if_neg (by omega))

end

/-- What transaction `i` can do from `s`: one constructor per way in which it can end. -/
inductive Done : Instr → State → State → Prop
  /-- it waits while the port is held (R119) -/
  | held {i s} : s.port ≠ .idle → i ≠ .cancel i.handle → Done i s s
  /-- it is answered, and changes nothing (R15) -/
  | answered {i s} (st : Status) (h : Handle) (n : Nat) : Done i s ((s.received i).respond st h n [])
  /-- OPEN binds a free slot (R120) -/
  | opened {s} (h : Handle) : freeHandle s = some h →
      Done .openHandle s (((s.received .openHandle).setSlot h ⟨true, 0, none⟩).respond .ok h 0 [])
  /-- CLOSE frees the slot (R122) -/
  | closed {s} (h : Handle) : Done (.close h) s (((s.received (.close h)).setOpen h false).respond .ok h 0 [])
  /-- a WRITE below the boundary stores its bytes and moves the cursor (R124) -/
  | stored {s} (h : Handle) (len : Half) (p : List Byte) :
      writeAddr s h + transferLen s len (writeAddr s h) < s.fbBytes →
      Done (.write h len p false) s
        (((storeBytes h len p (s.received (.write h len p false))).setPos h
          (writeAddr s h + transferLen s len (writeAddr s h))).respond .ok h (transferLen s len (writeAddr s h)) [])
  /-- a WRITE at the boundary stores its bytes and commits (R151) -/
  | committed {s} (h : Handle) (len : Half) (p : List Byte) :
      writeAddr s h + transferLen s len (writeAddr s h) = s.fbBytes →
      Done (.write h len p false) s
        (commitStart h (transferLen s len (writeAddr s h)) (storeBytes h len p (s.received (.write h len p false))))
  /-- a READ moves the cursor (R125) -/
  | moved {s} (h : Handle) (nb : Bool) (len : Half) (x : Bool) (a n : Nat) (d : List Byte) :
      Done (.read h nb len x) s (((s.received (.read h nb len x)).setPos h a).respond .ok h n d)
  /-- a blocking READ registers (R126) -/
  | registered {s} (h : Handle) (len : Half) (x : Bool) :
      Done (.read h false len x) s (register h len x (s.received (.read h false len x)))
  /-- SET_LATCH_DELAY (R203) -/
  | latchDelay {s} (h : Handle) (len : Half) (p : List Byte) :
      Done (.setLatchDelay h len p false) s
        ((setLatchDelay (le32 p 0) (s.received (.setLatchDelay h len p false))).respond .ok h 0 [])
  /-- SET_CLOCK_DELAY (R204) -/
  | clockDelay {s} (h : Handle) (len : Half) (p : List Byte) :
      Done (.setClockDelay h len p false) s
        ((setClockDelay (le32 p 0) (s.received (.setClockDelay h len p false))).respond .ok h 0 [])
  /-- SET_GAMMA (R205) -/
  | gamma {s} (h : Handle) (len : Half) (p : List Byte) :
      Done (.setGamma h len p false) s
        ((setGamma (gammaOf p) (s.received (.setGamma h len p false))).respond .ok h 0 [])
  /-- SET_BLANK (R206) -/
  | blanked {s} (h : Handle) (len : Half) (p : List Byte) :
      Done (.setBlank h len p false) s
        ((setBlank (le32 p 0 != 0) (s.received (.setBlank h len p false))).respond .ok h 0 [])
  /-- CANCEL ends a pending READ (R128) -/
  | interrupted {s} (h : Handle) : s.waiting h = true →
      Done (.cancel h) s ((((s.received (.cancel h)).setPend h none).raise .interrupted h).respond .ok h 1 [])

/-! ### Every transaction does one of these -/

section
variable {i : Instr} {h : Handle} {body : State → Result} {s t : State}

/-- Only what the body does with a ready handle is left to show. -/
theorem onHandle_done (hi : i ≠ .cancel i.handle) (hbody : s.ready h → body (s.received i) = .next t → Done i s t)
    (he : onHandle i h body s = .next t) : Done i s t := by
  obtain ⟨hp, ho⟩ | ⟨-, -, ho⟩ | ⟨-, -, -, ho⟩ | ⟨hr, hb⟩ := onHandle_cases he
  · cases ho; exact .held hp hi
  · cases ho; exact .answered .badHandle h 0
  · cases ho; exact .answered .busy h 0
  · exact hbody hr hb

/-- A control command that passes its checks, XFER_ERR among them, has its own effect. -/
theorem ctrl_done {size len : Half} {x : Bool} {f : State → State} (hi : i ≠ .cancel i.handle)
    (hf : x = false → Done i s ((f (s.received i)).respond .ok h 0 []))
    (he : onHandle i h (ctrlBody size h len x f) s = .next t) : Done i s t := by
  refine onHandle_done hi (fun _ hb => ?_) he
  obtain ⟨-, ho⟩ | ⟨-, -, ho⟩ | ⟨-, hx, ho⟩ := ctrlBody_cases hb
  · cases ho; exact .answered .badLen h 0
  · cases ho; exact .answered .fault h 0
  · cases ho; exact hf hx

theorem open_done (he : execOpen s = .next t) : Done .openHandle s t := by
  unfold execOpen at he
  by_cases hp : s.port = .idle
  · rw [whenAdmitted_idle hp, openBody] at he
    split at he <;> cases he
    case h_1 h hf => exact .opened h hf
    case h_2 => exact .answered .noHandle 0 0
  · rw [whenAdmitted_held hp] at he
    cases he; exact .held hp nofun

/-- A WRITE without XFER_ERR whose body answers has stored its bytes, inside the frame (R124). -/
theorem writeBody_eq_next {len : Half} {p : List Byte} (he : writeBody h len p false s = .next t) :
    writeAddr s h + transferLen s len (writeAddr s h) ≤ s.fbBytes
    ∧ t = writeDone h (writeAddr s h) (transferLen s len (writeAddr s h)) (storeBytes h len p s) := by
  simp only [writeBody, Bool.false_eq_true, if_false] at he
  split at he <;> cases he
  next s1 hm =>
    obtain ⟨hle, rfl⟩ := State.memWrite_eq_some.1 hm
    exact ⟨hle, rfl⟩

/-- A WRITE that passes the prologue commits at the boundary, and below it its cursor moves on (R124). -/
theorem writeBody_done {len : Half} {p : List Byte}
    (he : writeBody h len p false (s.received (.write h len p false)) = .next t) : Done (.write h len p false) s t := by
  obtain ⟨hle, rfl⟩ := writeBody_eq_next he
  unfold writeDone
  split_ifs with hb
  · exact .committed h len p hb
  · exact .stored h len p (lt_of_le_of_ne hle hb)

theorem write_done {len : Half} {p : List Byte} {x : Bool} (he : execWrite h len p x s = .next t) :
    Done (.write h len p x) s t := by
  refine onHandle_done nofun (fun _ hb => ?_) he
  cases x with
  | true => cases hb; exact .answered .fault h 0
  | false => exact writeBody_done hb

theorem read_done {nb : Bool} {len : Half} {x : Bool} (he : execRead h nb len x s = .next t) :
    Done (.read h nb len x) s t := by
  refine onHandle_done nofun (fun _ hb => ?_) he
  unfold readBody at hb
  split_ifs at hb with heof hblock
  · cases hb; exact .moved h nb len x 0 0 []
  · obtain ⟨-, rfl⟩ := hblock
    cases hb; exact .registered h len x
  · cases hb; exact .answered .fault h 0
  · simp only [readNow] at hb
    split at hb <;> cases hb
    exact .moved ..

theorem cancel_done (he : execCancel h s = .next t) : Done (.cancel h) s t := by
  unfold execCancel at he
  cases hb : s.bound h
  · rw [onCancel_badHandle hb] at he
    cases he; exact .answered .badHandle h 0
  · rw [onCancel_bound hb, cancelBody] at he
    split_ifs at he with hw <;> cases he
    · exact .interrupted h hw
    · exact .answered .ok h 0

/-- Whatever transaction is run, it does one of these. -/
theorem exec_done (he : exec i s = .next t) : Done i s t := by
  cases i with
  | openHandle => exact open_done he
  | close h => exact onHandle_done nofun (fun _ hb => by cases hb; exact .closed h) he
  | write h len p x => exact write_done he
  | read h nb len x => exact read_done he
  | setLatchDelay h len p x => exact ctrl_done nofun (by rintro rfl; exact .latchDelay h len p) he
  | setClockDelay h len p x => exact ctrl_done nofun (by rintro rfl; exact .clockDelay h len p) he
  | setGamma h len p x => exact ctrl_done nofun (by rintro rfl; exact .gamma h len p) he
  | setBlank h len p x => exact ctrl_done nofun (by rintro rfl; exact .blanked h len p) he
  | ctrlUnsupported4To7 h c len p x =>
    exact onHandle_done nofun (fun _ hb => by cases hb; exact .answered .notSupported h 0) he
  | ctrlUnsupported8To15 h c len p x =>
    exact onHandle_done nofun (fun _ hb => by cases hb; exact .answered .notSupported h 0) he
  | cancel h => exact cancel_done he

end

/-! ### What each transaction leaves alone -/

/-- Settles O47: only a held transaction records nothing, and one that is admitted is not held. -/
theorem transactionsAreRecorded : Obligations.TransactionsAreRecorded := by
  intro s t i hadmitted he
  cases exec_done he with
  | held hp hi => exact absurd hadmitted (not_or.2 ⟨hp, hi⟩)
  | _ => simp [register, setBlank]

/-- Settles O43: each way in which a transaction can end writes the elements of its own row only. -/
theorem transactionsWriteOnly : Obligations.TransactionsWriteOnly := by
  intro s t i he
  cases exec_done he <;> simp [Instr.row, storeBytes]

/-- Every transaction but OPEN changes at most the slot it names. -/
theorem exec_slot_ne {s t : State} {i : Instr} (hi : i ≠ .openHandle) (he : exec i s = .next t) {g : Handle}
    (hg : g ≠ i.handle) : t.slot g = s.slot g := by
  cases exec_done he with
  | opened => exact absurd rfl hi
  | closed | stored | moved | registered | interrupted => exact State.slot_setSlot_ne _ _ hg
  | _ => simp

/-- Settles O44: the slot that a transaction sets, and the field of it. -/
theorem transactionsKeepOtherHandles : Obligations.TransactionsKeepOtherHandles := by
  refine ⟨fun s t he => ?_, fun s t i hi he g hg => exec_slot_ne hi he hg, fun s t h he => ?_, fun s t h len p x he => ?_,
    fun s t h nb len x he => ?_, fun s t h he => ?_, fun s t i hlo hhi he => ?_⟩
  · cases exec_done he with
    | held | answered => exact .inl rfl
    | opened h hf => exact .inr ⟨h, (freeHandle_some hf).2, fun g hg => State.slot_setSlot_ne _ _ hg⟩
  · cases exec_done he <;> simp
  · cases exec_done he <;> simp
  · cases exec_done he <;> simp [register]
  · cases exec_done he <;> simp
  · cases exec_done he with
    | held | answered | latchDelay | clockDelay | gamma | blanked => simp
    | _ => simp [Instr.row] at hlo hhi

/-- Settles O45: a WRITE that stores writes no more than its n bytes, and every other form keeps the memory. -/
theorem writeLeavesOtherBytes : Obligations.WriteLeavesOtherBytes := by
  intro s t h len p x hwf he b hb
  cases exec_done he with
  | held | answered => rfl
  | stored | committed => exact storeBytes_read_outside h len p (s.received _) hwf hb

/-- Settles O46: a WRITE that is answered has not reached the boundary, where it would hold the port. -/
theorem cursorBelowTheBoundAfterWrite : Obligations.CursorBelowTheBoundAfterWrite := by
  intro s t h len p hr _ he hidle
  have hbody : writeBody h len p false (s.received (.write h len p false)) = .next t := (onHandle_ready hr).symm.trans he
  obtain ⟨hle, rfl⟩ := writeBody_eq_next hbody
  unfold writeDone at hidle ⊢
  split_ifs at hidle ⊢ with hb
  · cases hidle
  · simpa using lt_of_le_of_ne hle hb

end Sys2Proof.Machine
end

section
/-! SUPPORT. The frame byte that the wiring map gives: its row's place and its place within the row (R63, R70). -/

namespace Sys2Proof

/-- A frame row is 3 * COLS bytes long. -/
theorem paddr_eq_add_lrow_mul (c : Config) (cc p : Nat) : c.paddr cc p = cc + c.lrow p * (3 * c.cols) := by
  rw [Config.paddr, Config.rowOff, mul_assoc, mul_comm c.cols]

/-- A column-component index is three times its column, and its component (R63). -/
theorem offset_div_mod_three (c : Config) (row cc : Nat) :
    c.offset row (cc / 3) (cc % 3) = cc + row * (3 * c.cols) := by
  rw [Config.offset, add_assoc, Nat.div_add_mod, add_comm]

theorem add_row_mul_lt_fbBytes {c : Config} {row cc : Nat} (hcc : cc < 3 * c.cols) (hrow : row < c.rows) :
    cc + row * (3 * c.cols) < c.fbBytes :=
  calc cc + row * (3 * c.cols) < 3 * c.cols + row * (3 * c.cols) := by gcongr
    _ = (row + 1) * (3 * c.cols) := by ring
    _ ≤ c.rows * (3 * c.cols) := by gcongr; exact hrow
    _ = c.fbBytes := by rw [Config.fbBytes]; ring

/-- Settles O11: PADDR is the row's place plus the column-component index, and both LROW and the index are in range. -/
theorem wiringMapStaysInFrame : Obligations.WiringMapStaysInFrame := by
  intro c cc p hc hcc hp
  rw [offset_div_mod_three, paddr_eq_add_lrow_mul]
  exact ⟨add_row_mul_lt_fbBytes hcc (lrow_lt hc hp), rfl, rfl⟩

end Sys2Proof
end

section
/-! SUPPORT. The decoder: a request decodes to the transaction whose header it has, and to no other (R100); which
headers decode to none (R102). -/

namespace Sys2Proof

/-! ### Decoding the header of a transaction -/

/-- CTRL with CMD 4 .. 7, which is 1 above its two low bits (R95). -/
theorem decodeCtrl_one_append_two (h : Handle) (c : BitVec 2) (len : Half) (p : List Byte) (x : Bool) :
    decodeCtrl h (1#2 ++ c) len p x = .ctrlUnsupported4To7 h c len p x := by
  have hc : ∀ c : BitVec 2, let cmd : BitVec 4 := 1#2 ++ c
      ¬cmd = 0 ∧ ¬cmd = 1 ∧ ¬cmd = 2 ∧ ¬cmd = 3 ∧ cmd < 8 ∧ cmd.extractLsb' 0 2 = c := by decide
  obtain ⟨h0, h1, h2, h3, h8, he⟩ := hc c
  rw [decodeCtrl, if_neg h0, if_neg h1, if_neg h2, if_neg h3, if_pos h8, he]

/-- CTRL with CMD 8 .. 15, which is 1 above its three low bits (R95). -/
theorem decodeCtrl_one_append_three (h : Handle) (c : BitVec 3) (len : Half) (p : List Byte) (x : Bool) :
    decodeCtrl h (1#1 ++ c) len p x = .ctrlUnsupported8To15 h c len p x := by
  have hc : ∀ c : BitVec 3, let cmd : BitVec 4 := 1#1 ++ c
      ¬cmd = 0 ∧ ¬cmd = 1 ∧ ¬cmd = 2 ∧ ¬cmd = 3 ∧ ¬cmd < 8 ∧ cmd.extractLsb' 0 3 = c := by decide
  obtain ⟨h0, h1, h2, h3, h8, he⟩ := hc c
  rw [decodeCtrl, if_neg h0, if_neg h1, if_neg h2, if_neg h3, if_neg h8, he]

/-- The code of row 8 is 01 above its two low bits (R101). -/
theorem one_append_low_two : ∀ cmd : BitVec 4, cmd &&& 12#4 = 4#4 → 1#2 ++ cmd.extractLsb' 0 2 = cmd := by decide

/-- The code of row 9 is 1 above its three low bits (R101). -/
theorem one_append_low_three : ∀ cmd : BitVec 4, cmd &&& 8#4 = 8#4 → 1#1 ++ cmd.extractLsb' 0 3 = cmd := by decide

theorem and_twelve_of_lt_eight : ∀ cmd : BitVec 4, ¬cmd = 0 → ¬cmd = 1 → ¬cmd = 2 → ¬cmd = 3 → cmd < 8 →
    cmd &&& 12#4 = 4#4 := by decide

theorem and_eight_of_not_lt_eight : ∀ cmd : BitVec 4, ¬cmd < 8 → cmd &&& 8#4 = 8#4 := by decide

theorem header_decodeCtrl (h : Handle) (cmd : BitVec 4) (len : Half) (p : List Byte) (x : Bool) :
    (decodeCtrl h cmd len p x).header = mkHeader 5 h false cmd len := by
  unfold decodeCtrl
  split_ifs with h0 h1 h2 h3 h8
  · rw [h0]; rfl
  · rw [h1]; rfl
  · rw [h2]; rfl
  · rw [h3]; rfl
  · exact congrArg (mkHeader 5 h false · len) (one_append_low_two cmd (and_twelve_of_lt_eight cmd h0 h1 h2 h3 h8))
  · exact congrArg (mkHeader 5 h false · len) (one_append_low_three cmd (and_eight_of_not_lt_eight cmd h8))

/-- The transaction with p and x in place of its own payload and XFER_ERR, where it has them. -/
def Instr.carrying (p : List Byte) (x : Bool) : Instr → Instr
  | .openHandle => .openHandle
  | .close h => .close h
  | .write h len _ _ => .write h len p x
  | .read h nb len _ => .read h nb len x
  | .setLatchDelay h len _ _ => .setLatchDelay h len p x
  | .setClockDelay h len _ _ => .setClockDelay h len p x
  | .setGamma h len _ _ => .setGamma h len p x
  | .setBlank h len _ _ => .setBlank h len p x
  | .ctrlUnsupported4To7 h c len _ _ => .ctrlUnsupported4To7 h c len p x
  | .ctrlUnsupported8To15 h c len _ _ => .ctrlUnsupported8To15 h c len p x
  | .cancel h => .cancel h

theorem carrying_own (i : Instr) : i.carrying i.payload i.xferErr = i := by cases i <;> rfl

@[simp] theorem row_carrying (i : Instr) (p : List Byte) (x : Bool) : (i.carrying p x).row = i.row := by cases i <;> rfl

/-- A header that encodes a transaction decodes to it, with the request's payload and XFER_ERR (R100). -/
theorem decodeRequest_header (i : Instr) (p : List Byte) (x : Bool) :
    decodeRequest ⟨i.header, p, x⟩ = .ok (i.carrying p x) := by
  cases i with
  | ctrlUnsupported4To7 h c => simp [decodeRequest, Instr.header, Instr.carrying, decodeCtrl_one_append_two]
  | ctrlUnsupported8To15 h c => simp [decodeRequest, Instr.header, Instr.carrying, decodeCtrl_one_append_three]
  | _ => simp [decodeRequest, Instr.header, Instr.carrying, decodeCtrl]

/-- Decoding drops no bit of the header (R100). -/
theorem header_of_decodeRequest {r : Request} {i : Instr} (hd : decodeRequest r = .ok i) : i.header = r.header := by
  unfold decodeRequest at hd
  simp only at hd
  split_ifs at hd with hrsvd h1 h h2 h h3 h h4 h h5 h h6 h <;> cases hd
  all_goals rw [← mkHeader_fields r.header (not_not.mp hrsvd)]
  · simp [Instr.header, h1, h]
  · simp [Instr.header, h2, h]
  · simp [Instr.header, h3, h]
  · simp [Instr.header, h4, h]
  · simp [header_decodeCtrl, h5, h]
  · simp [Instr.header, h6, h]

/-- What a request decodes to, said once: the transaction that has its header, with its payload and XFER_ERR. -/
theorem decodeRequest_eq_ok_iff {r : Request} {i : Instr} :
    decodeRequest r = .ok i ↔ i.header = r.header ∧ i.carrying r.payload r.xferErr = i := by
  obtain ⟨w, p, x⟩ := r
  constructor
  · intro hd
    obtain rfl : i.header = w := header_of_decodeRequest hd
    exact ⟨rfl, Except.ok.inj ((decodeRequest_header i p x).symm.trans hd)⟩
  · rintro ⟨rfl, hc⟩
    rw [decodeRequest_header, hc]

theorem decodeRequest_encode (i : Instr) : decodeRequest (encode i) = .ok i :=
  decodeRequest_eq_ok_iff.mpr ⟨rfl, carrying_own i⟩

theorem framed_encode {i : Instr} (hw : i.wf = true) : (encode i).framed = true := by
  cases i with
  | openHandle => exact (Laws.Framed.openHandle hw).1
  | close => exact (Laws.Framed.close _ hw).1
  | write => exact (Laws.Framed.write _ _ _ _ hw).1
  | read => exact (Laws.Framed.read _ _ _ _ hw).1
  | setLatchDelay => exact (Laws.Framed.setLatchDelay _ _ _ _ hw).1
  | setClockDelay => exact (Laws.Framed.setClockDelay _ _ _ _ hw).1
  | setGamma => exact (Laws.Framed.setGamma _ _ _ _ hw).1
  | setBlank => exact (Laws.Framed.setBlank _ _ _ _ hw).1
  | ctrlUnsupported4To7 => exact (Laws.Framed.ctrlUnsupported4To7 _ _ _ _ _ hw).1
  | ctrlUnsupported8To15 => exact (Laws.Framed.ctrlUnsupported8To15 _ _ _ _ _ hw).1
  | cancel => exact (Laws.Framed.cancel _ hw).1

/-- Settles O1: framing takes the request of a well-formed transaction off the bytes, and its header decodes to it. -/
theorem decodeEncodeRoundTrip : Obligations.DecodeEncodeRoundTrip := by
  intro i rest hw
  have hf : frame i.xferErr ((encode i).bytes ++ rest) = .ok (encode i, rest) := frame_bytes _ (framed_encode hw) rest
  simp [decodeBytes, hf, decodeRequest_encode]

/-- A transaction that took its payload from a framed request is well-formed, and has all of that payload (R90). -/
theorem wf_payload_carrying {i : Instr} {p : List Byte} (x : Bool) (hl : p.length = plen i.header) :
    (i.carrying p x).wf = true ∧ (i.carrying p x).payload = p := by
  cases i with
  | openHandle | close | read | cancel =>
    simpa [plen, Instr.header, Instr.wf, Instr.payload, Instr.carrying, eq_comm (a := ([] : List Byte))] using hl
  | _ => simpa [plen, Instr.header, Instr.wf, Instr.payload, Instr.carrying] using hl

/-- Only OPEN, CLOSE and CANCEL have no XFER_ERR to take (R98). -/
theorem xferErr_carrying (i : Instr) (p : List Byte) (x : Bool) :
    (i.carrying p x).xferErr = x ∨ headerOp i.header = 1 ∨ headerOp i.header = 2 ∨ headerOp i.header = 6 := by
  cases i with
  | openHandle | close | cancel => simp [Instr.header]
  | _ => exact .inl rfl

/-- Settles O2: a transaction that is decoded has its request's header, and took its request's payload and XFER_ERR. -/
theorem decodedRequestReencodes : Obligations.DecodedRequestReencodes := by
  intro r i hf hd
  obtain ⟨hh, hc⟩ := decodeRequest_eq_ok_iff.mp hd
  have hl : r.payload.length = plen i.header := by simpa [Request.framed, hh] using hf
  have hwp := wf_payload_carrying r.xferErr hl
  have hx := xferErr_carrying i r.payload r.xferErr
  rw [hc] at hwp hx
  exact ⟨hwp.1, hh, hwp.2, hh ▸ hx⟩

/-! ### ILLEGAL -/

/-- OP is one of the six operations or reserved (R92). -/
theorem op_cases : ∀ op : BitVec 4,
    (op = 0 ∨ 7 ≤ op.toNat) ∨ op = 1 ∨ op = 2 ∨ op = 3 ∨ op = 4 ∨ op = 5 ∨ op = 6 := by decide

/-- A reserved OP is none of the six (R92). -/
theorem ne_of_op_reserved : ∀ op : BitVec 4, op = 0 ∨ 7 ≤ op.toNat →
    ¬op = 1 ∧ ¬op = 2 ∧ ¬op = 3 ∧ ¬op = 4 ∧ ¬op = 5 ∧ ¬op = 6 := by decide

/-- A must-be-zero check fails exactly where its condition does. -/
theorem exists_error_of_check (c : Prop) [Decidable c] (i : Instr) (d : DecodeError) :
    (∃ e, (if c then Except.ok i else Except.error d) = Except.error e) ↔ ¬c := by
  split_ifs with hc <;> simp [hc]

/-- Settles O4: by OP, the fields that the decoder looks at are those that must be 0. -/
theorem illegalEncodings : Obligations.IllegalEncodings := by
  intro r
  by_cases hrsvd : headerRsvd r.header = 0
  · obtain hres | h | h | h | h | h | h := op_cases (headerOp r.header)
    · obtain ⟨h1, h2, h3, h4, h5, h6⟩ := ne_of_op_reserved _ hres
      refine iff_of_true ⟨.reservedOp, ?_⟩ (hres.elim .inl (.inr ∘ .inl))
      simp only [decodeRequest, hrsvd, h1, h2, h3, h4, h5, h6, ne_eq, not_true_eq_false, if_false]
    all_goals simp [decodeRequest, hrsvd, h, exists_error_of_check, not_and_or, -not_and]
  · exact iff_of_true ⟨.reservedBits, if_pos hrsvd⟩ (.inr (.inr (.inl hrsvd)))

/-- Settles O5: each of the words is decoded by running the decoder on it. -/
theorem specWordsDecode : Obligations.SpecWordsDecode :=
  ⟨rfl, rfl, rfl, rfl, rfl, rfl, rfl, rfl, rfl⟩

end Sys2Proof
end

section
/-! SUPPORT. The rows of the opcode table: a header matches a row exactly if it is the header of a transaction of that row
(R101). -/

namespace Sys2Proof

/-- A word is made of its six fields (R91). -/
theorem append_fields (w : Word) : headerOp w ++ headerHandle w ++ BitVec.ofBool (headerNb w) ++ headerRsvd w ++ headerCmd w
    ++ headerLen w = w := by
  ext i hi
  unfold headerOp headerHandle headerNb headerRsvd headerCmd headerLen
  simp only [← BitVec.getLsbD_eq_getElem, BitVec.getLsbD_append, BitVec.getLsbD_extractLsb']
  interval_cases i <;> simp

/-- Masking a header masks each field by the mask's field, so a match is a match of each field (R101). -/
theorem and_eq_iff_fields (w mask m : Word) : w &&& mask = m ↔
    headerOp w &&& headerOp mask = headerOp m ∧ headerHandle w &&& headerHandle mask = headerHandle m
    ∧ (headerNb w && headerNb mask) = headerNb m ∧ headerRsvd w &&& headerRsvd mask = headerRsvd m
    ∧ headerCmd w &&& headerCmd mask = headerCmd m ∧ headerLen w &&& headerLen mask = headerLen m := by
  have hop : headerOp (w &&& mask) = headerOp w &&& headerOp mask := BitVec.extractLsb'_and
  have hhandle : headerHandle (w &&& mask) = headerHandle w &&& headerHandle mask := BitVec.extractLsb'_and
  have hnb : headerNb (w &&& mask) = (headerNb w && headerNb mask) := BitVec.getLsbD_and
  have hrsvd : headerRsvd (w &&& mask) = headerRsvd w &&& headerRsvd mask := BitVec.extractLsb'_and
  have hcmd : headerCmd (w &&& mask) = headerCmd w &&& headerCmd mask := BitVec.extractLsb'_and
  have hlen : headerLen (w &&& mask) = headerLen w &&& headerLen mask := BitVec.extractLsb'_and
  rw [← hop, ← hhandle, ← hnb, ← hrsvd, ← hcmd, ← hlen]
  constructor
  · rintro rfl
    exact ⟨rfl, rfl, rfl, rfl, rfl, rfl⟩
  · rintro ⟨h1, h2, h3, h4, h5, h6⟩
    rw [← append_fields (w &&& mask), h1, h2, h3, h4, h5, h6, append_fields]

/-- The header matches row k of the table (R101). -/
def MatchesRow (w : Word) (k : Nat) : Prop := w &&& (opcodeRows.getD k (0, 0)).2 = (opcodeRows.getD k (0, 0)).1

theorem row_lt (i : Instr) : i.row < 11 := by
  cases i <;> simp [Instr.row]

theorem one_append_two_and : ∀ c : BitVec 2, 1#2 ++ c &&& 12#4 = 4#4 := by decide

theorem one_append_three_and : ∀ c : BitVec 3, 1#1 ++ c &&& 8#4 = 8#4 := by decide

/-- A transaction's header matches the transaction's row: the first `simp` reads the fields of the header, the second those of
the row's constants. -/
theorem matchesRow_header (i : Instr) : MatchesRow i.header i.row := by
  rw [MatchesRow, and_eq_iff_fields]
  cases i <;> simp [Instr.header, Instr.row, opcodeRows] <;>
    simp [headerOp, headerHandle, headerNb, headerRsvd, headerCmd, headerLen, one_append_two_and, one_append_three_and]

/-- Whatever matches a row is the header of a transaction of that row: the row's mask fixes every field but its operands. -/
theorem exists_header_of_matchesRow {w : Word} {k : Nat} (hk : k < 11) (hm : MatchesRow w k) :
    ∃ i : Instr, i.header = w ∧ i.row = k := by
  have whole3 : ∀ x : BitVec 3, x &&& 7#3 = x := fun _ => BitVec.and_allOnes
  have whole4 : ∀ x : BitVec 4, x &&& 15#4 = x := fun _ => BitVec.and_allOnes
  have whole16 : ∀ x : BitVec 16, x &&& 65535#16 = x := fun _ => BitVec.and_allOnes
  rw [MatchesRow, and_eq_iff_fields] at hm
  have hw := mkHeader_fields w
  generalize headerOp w = op, headerHandle w = h, headerNb w = nb, headerRsvd w = rsvd, headerCmd w = cmd,
    headerLen w = len at hm hw
  interval_cases k <;>
    simp [opcodeRows, headerOp, headerHandle, headerNb, headerRsvd, headerCmd, headerLen, whole3, whole4, whole16] at hm
  · obtain ⟨rfl, rfl, rfl, rfl, rfl, rfl⟩ := hm
    exact ⟨.openHandle, hw rfl, rfl⟩
  · obtain ⟨rfl, rfl, rfl, rfl, rfl⟩ := hm
    exact ⟨.close h, hw rfl, rfl⟩
  · obtain ⟨rfl, rfl, rfl, rfl⟩ := hm
    exact ⟨.write h len [] false, hw rfl, rfl⟩
  · obtain ⟨rfl, rfl, rfl⟩ := hm
    exact ⟨.read h nb len false, hw rfl, rfl⟩
  · obtain ⟨rfl, rfl, rfl, rfl⟩ := hm
    exact ⟨.setLatchDelay h len [] false, hw rfl, rfl⟩
  · obtain ⟨rfl, rfl, rfl, rfl⟩ := hm
    exact ⟨.setClockDelay h len [] false, hw rfl, rfl⟩
  · obtain ⟨rfl, rfl, rfl, rfl⟩ := hm
    exact ⟨.setGamma h len [] false, hw rfl, rfl⟩
  · obtain ⟨rfl, rfl, rfl, rfl⟩ := hm
    exact ⟨.setBlank h len [] false, hw rfl, rfl⟩
  · obtain ⟨rfl, rfl, rfl, hcmd⟩ := hm
    rw [← one_append_low_two cmd hcmd] at hw
    exact ⟨.ctrlUnsupported4To7 h _ len [] false, hw rfl, rfl⟩
  · obtain ⟨rfl, rfl, rfl, hcmd⟩ := hm
    rw [← one_append_low_three cmd hcmd] at hw
    exact ⟨.ctrlUnsupported8To15 h _ len [] false, hw rfl, rfl⟩
  · obtain ⟨rfl, rfl, rfl, rfl, rfl⟩ := hm
    exact ⟨.cancel h, hw rfl, rfl⟩

/-- The decoder reads row k exactly where the table says so (R101). -/
theorem exists_decodeRequest_row_iff (r : Request) {k : Nat} (hk : k < 11) :
    (∃ i, decodeRequest r = .ok i ∧ i.row = k) ↔ MatchesRow r.header k := by
  constructor
  · rintro ⟨i, hd, rfl⟩
    exact header_of_decodeRequest hd ▸ matchesRow_header i
  · intro hm
    obtain ⟨i, hh, hr⟩ := exists_header_of_matchesRow hk hm
    refine ⟨i.carrying r.payload r.xferErr, ?_, by simpa using hr⟩
    rw [← decodeRequest_header, hh]

/-- No two rows overlap (R101): the decoder, which reads one row at most, reads each that a header matches. -/
theorem row_unique {w : Word} {k l : Nat} (hk : k < 11) (hl : l < 11) (hwk : MatchesRow w k) (hwl : MatchesRow w l) : k = l := by
  obtain ⟨i, hi, rfl⟩ := (exists_decodeRequest_row_iff ⟨w, [], false⟩ hk).mpr hwk
  obtain ⟨j, hj, rfl⟩ := (exists_decodeRequest_row_iff ⟨w, [], false⟩ hl).mpr hwl
  rw [Except.ok.inj (hi.symm.trans hj)]

theorem decodeRequest_error_iff_not_ok (r : Request) :
    (∃ e, decodeRequest r = .error e) ↔ ¬∃ i, decodeRequest r = .ok i := by
  cases decodeRequest r <;> simp

/-- ILLEGAL is what matches no row (R101). -/
theorem decodeRequest_error_iff_no_row (r : Request) :
    (∃ e, decodeRequest r = .error e) ↔ ∀ k, k < 11 → ¬MatchesRow r.header k := by
  rw [decodeRequest_error_iff_not_ok]
  constructor
  · intro hno k hk hm
    obtain ⟨i, hd, -⟩ := (exists_decodeRequest_row_iff r hk).mpr hm
    exact hno ⟨i, hd⟩
  · rintro hno ⟨i, hd⟩
    exact hno i.row (row_lt i) ((exists_decodeRequest_row_iff r (row_lt i)).mp ⟨i, hd, rfl⟩)

/-- Settles O3: the three claims of R101. -/
theorem headersMatchTheirTableRow : Obligations.HeadersMatchTheirTableRow :=
  ⟨fun r _ hk => exists_decodeRequest_row_iff r hk, fun _ _ _ hk hl => row_unique hk hl, decodeRequest_error_iff_no_row⟩

end Sys2Proof
end

section
/-! SUPPORT. The pseudo-instructions (R106): what WRITEFRAME and READFRAME have issued for the responses that have come, and the
payload of GAMMA.LINEAR. -/

namespace Sys2Proof.Machine

/-! ### The pieces of a frame -/

/-- Piece j is F[jk .. (j+1)k-1], as long as it is not empty. -/
theorem getElem?_chunks {k : Nat} (hk : 0 < k) {f : List Byte} {j : Nat} (hj : j * k < f.length) :
    (chunks k f)[j]? = some ((f.drop (j * k)).take k) := by
  have hlt : j < (f.length + k - 1) / k := by
    rw [Nat.lt_div_iff_mul_lt hk]
    omega
  simp [chunks, List.getElem?_range hlt]

theorem length_le_of_mem_chunks {k : Nat} {f p : List Byte} (hp : p ∈ chunks k f) : p.length ≤ k := by
  obtain ⟨j, -, rfl⟩ := List.mem_map.mp hp
  exact List.length_take_le ..

/-- The first n pieces are the first n * k bytes. -/
theorem flatten_pieces (k n : Nat) (f : List Byte) :
    ((List.range n).map fun j => (f.drop (j * k)).take k).flatten = f.take (n * k) := by
  induction n with
  | zero => simp
  | succ n ih => simp [List.range_succ, ih, Nat.succ_mul, List.take_add]

theorem flatten_chunks {k : Nat} (hk : 0 < k) (f : List Byte) : (chunks k f).flatten = f := by
  rw [chunks, flatten_pieces]
  refine List.take_of_length_le ?_
  have h := Nat.lt_mul_div_succ (f.length + k - 1) hk
  rw [Nat.mul_succ, mul_comm k] at h
  omega

theorem chunkSize_pos {c : Config} (hc : c.wf = true) : 0 < chunkSize c := by
  obtain ⟨hr, hcol, -⟩ := of_decide_eq_true hc
  have : 0 < c.fbBytes := by rw [Config.fbBytes]; positivity
  exact lt_min this (by norm_num)

theorem chunkSize_le (c : Config) : chunkSize c ≤ 65535 := min_le_right ..

/-! ### WRITEFRAME -/

/-- The bytes of the payloads that were consumed, by the COUNTs of the responses. -/
def consumed (is : List Instr) (ws : List Word) : List Byte :=
  (is.zip ws).flatMap fun iw => iw.1.payload.take (respCount iw.2)

@[simp] theorem consumed_nil_left (ws : List Word) : consumed [] ws = [] := rfl

@[simp] theorem consumed_nil_right (is : List Instr) : consumed is [] = [] := by simp [consumed]

@[simp] theorem consumed_cons (i : Instr) (is : List Instr) (w : Word) (ws : List Word) :
    consumed (i :: is) (w :: ws) = i.payload.take (respCount w) ++ consumed is ws := rfl

@[simp] theorem payload_writeOf (h : Handle) (p : List Byte) : (writeOf h p).payload = p := rfl

/-- A WRITE of at most 65535 bytes has room for its length in LEN. -/
theorem wf_writeOf (h : Handle) {p : List Byte} (hp : p.length ≤ 65535) : (writeOf h p).wf = true := by
  have hmod : p.length % 65536 = p.length := by omega
  simp [writeOf, Instr.wf, hmod]

/-- Every WRITE offers a piece or the rest of one, so none is longer than the longest piece. -/
theorem exists_writeOf_of_mem_writePieces {h : Handle} {n : Nat} {i : Instr} (ps : List (List Byte)) (ws : List Word)
    (hn : ∀ p ∈ ps, p.length ≤ n) (hi : i ∈ writePieces h ps ws) : ∃ p, i = writeOf h p ∧ p.length ≤ n := by
  fun_induction writePieces h ps ws with
  | case1 ws => cases hi
  | case2 p ps => exact ⟨p, List.mem_singleton.mp hi, hn p List.mem_cons_self⟩
  | case3 p ps w ws ihShort ihFull =>
    obtain ⟨hp, hps⟩ := List.forall_mem_cons.mp hn
    obtain rfl | hi := List.mem_cons.mp hi
    · exact ⟨p, rfl, hp⟩
    split_ifs at hi with hlt
    · exact ihShort (List.forall_mem_cons.mpr ⟨(List.drop_sublist ..).length_le.trans hp, hps⟩) hi
    · exact ihFull hps hi

/-- The bytes consumed are the first ones of the pieces, and all of them once no WRITE is unanswered: a piece that was not
consumed whole is followed by its rest (R265). -/
theorem consumed_writePieces (h : Handle) (ps : List (List Byte)) (ws : List Word) :
    consumed (writePieces h ps ws) ws <+: ps.flatten
    ∧ ((writePieces h ps ws).length ≤ ws.length → consumed (writePieces h ps ws) ws = ps.flatten) := by
  fun_induction writePieces h ps ws with
  | case1 ws => simp
  | case2 p ps => simp
  | case3 p ps w ws ihShort ihFull =>
    split_ifs with hlt
    · have hsplit : (p :: ps).flatten = p.take (respCount w) ++ (p.drop (respCount w) :: ps).flatten := by
        rw [List.flatten_cons, List.flatten_cons, ← List.append_assoc, List.take_append_drop]
      rw [hsplit]
      simpa using ihShort
    · have hwhole : p.take (respCount w) = p := List.take_of_length_le (not_lt.mp hlt)
      simpa [hwhole] using ihFull

/-- While every COUNT is at least the longest piece, WRITE j offers piece j. -/
theorem getElem?_writePieces_of_full {h : Handle} {n : Nat} (ps : List (List Byte)) (ws : List Word) (j : Nat)
    (hn : ∀ p ∈ ps, p.length ≤ n) (hj : j ≤ ws.length) (hfull : ∀ w ∈ ws.take j, respCount w = n) :
    (writePieces h ps ws)[j]? = ps[j]?.map (writeOf h) := by
  induction j generalizing ps ws with
  | zero => cases ps <;> cases ws <;> simp [writePieces]
  | succ j ih =>
    obtain _ | ⟨w, ws⟩ := ws
    · simp at hj
    obtain _ | ⟨p, ps⟩ := ps
    · simp [writePieces]
    have hle : ¬respCount w < p.length := by
      rw [hfull w (by simp)]
      exact not_lt.mpr (hn p List.mem_cons_self)
    rw [writePieces, if_neg hle, List.getElem?_cons_succ, List.getElem?_cons_succ]
    exact ih ps ws (fun q hq => hn q (List.mem_cons_of_mem _ hq)) (by simpa using hj)
      fun v hv => hfull v (List.mem_cons_of_mem _ hv)

/-! ### READFRAME -/

/-- READ n is issued once the n before it are answered, if bytes are still to arrive then. -/
theorem getElem?_readPieces (h : Handle) (len left : Nat) (ws : List Word) (n : Nat) :
    (readPieces h len left ws)[n]?
      = if n ≤ ws.length ∧ ((ws.take n).map respCount).sum < left then some (readOf h len) else none := by
  induction n generalizing left ws with
  | zero => cases left <;> cases ws <;> simp [readPieces]
  | succ n ih =>
    obtain _ | left := left
    · simp [readPieces]
    obtain _ | ⟨w, ws⟩ := ws
    · simp [readPieces]
    simp only [readPieces, List.getElem?_cons_succ, ih, List.take_succ_cons, List.map_cons, List.sum_cons, List.length_cons,
      Nat.add_le_add_iff_right, Nat.lt_sub_iff_add_lt']

/-! ### GAMMA.LINEAR -/

/-- Two bytes per entry: the first of entry i stands at 2i, the second at 2i + 1. -/
theorem getElem?_flatMap_pair {α β : Type} (a b : α → β) (l : List α) (i : Nat) :
    (l.flatMap fun v => [a v, b v])[2 * i]? = l[i]?.map a ∧ (l.flatMap fun v => [a v, b v])[2 * i + 1]? = l[i]?.map b := by
  induction l generalizing i with
  | nil => simp
  | cons v l ih =>
    cases i with
    | zero => simp
    | succ i => simpa [mul_add] using ih i

theorem length_gammaBytes (g : Vector Half 256) : (gammaBytes g).length = 512 := by
  rw [gammaBytes, List.length_flatMap]
  simp only [List.length_cons, List.length_nil, List.map_const', List.sum_replicate, Vector.length_toList]
  rfl

/-- A 16-bit entry is its two bytes, the least significant first (R61). -/
theorem bytes_half (v : Half) : (v.extractLsb' 8 8 ++ v.extractLsb' 0 8 : BitVec (8 + 8)) = v := by
  ext i hi
  simp only [← BitVec.getLsbD_eq_getElem, BitVec.getLsbD_append, BitVec.getLsbD_extractLsb']
  interval_cases i <;> simp

/-- SET_GAMMA reads the table that the assembler wrote (R61, R205). -/
theorem gammaOf_gammaBytes (g : Vector Half 256) : gammaOf (gammaBytes g) = g := by
  ext i hi : 1
  obtain ⟨hlow, hhigh⟩ := getElem?_flatMap_pair (BitVec.extractLsb' 0 8) (BitVec.extractLsb' 8 8) g.toList i
  simp only [gammaOf, Vector.getElem_ofFn, le16, byteAt, List.getD_eq_getElem?_getD, gammaBytes, hlow, hhigh]
  simp [hi, bytes_half]

/-! ### R106 -/

/-- Settles O60: WRITEFRAME is its pieces with what remains of each, READFRAME goes on while bytes are still to arrive, and the
other three are one CTRL each. -/
theorem pseudoInstructions : Obligations.PseudoInstructions := by
  refine ⟨fun c h f ws hc => ⟨fun i hi => ?_, ?_⟩, fun c h f ws j hc hj hlt hfull => ?_,
    fun c h ws n => getElem?_readPieces h _ _ ws n, fun h => ⟨rfl, rfl⟩,
    fun c h => ⟨_, rfl, length_gammaBytes _, gammaOf_gammaBytes _⟩⟩
  · obtain ⟨p, rfl, hp⟩ := exists_writeOf_of_mem_writePieces _ _ (fun _ => length_le_of_mem_chunks) hi
    have hp : p.length ≤ 65535 := hp.trans (chunkSize_le c)
    exact ⟨p, rfl, hp, wf_writeOf h hp⟩
  · have hbytes := consumed_writePieces h (chunks (chunkSize c) f) ws
    rwa [flatten_chunks (chunkSize_pos hc)] at hbytes
  · have hpiece := getElem?_writePieces_of_full (h := h) (chunks (chunkSize c) f) ws j
      (fun _ => length_le_of_mem_chunks) hj hfull
    rw [writeFrame, hpiece, getElem?_chunks (chunkSize_pos hc) hlt]
    rfl

end Sys2Proof.Machine
end

section
/-! SUPPORT. The Frame Store transactions from a state that meets their conditions, and the waiters' share of a frame-ready
step (spec/40_frame_store.md). -/

namespace Sys2Proof.Machine

/-! ### OPEN (R120) -/

/-- Handle numbers are searched in ascending order. -/
theorem handleNumbers_pairwise_lt (c : Config) : c.handleNumbers.Pairwise (fun g h => g.toNat < h.toNat) :=
  List.Pairwise.filter _ (by decide)

/-- The search for a free slot ends at the first one. -/
theorem freeHandle_eq_some {s : State} {h : Handle} (hh : h.toNat < s.cfg.maxHandles)
    (hfree : (s.slot h).isOpen = false) (hleast : ∀ g : Handle, g.toNat < h.toNat → (s.slot g).isOpen = true) :
    freeHandle s = some h := by
  obtain ⟨before, after, hsplit⟩ := List.append_of_mem (mem_handleNumbers.2 hh)
  refine List.find?_eq_some_iff_append.2 ⟨by simp [hfree], before, after, hsplit, fun g hg => ?_⟩
  have hlt : g.toNat < h.toNat :=
    (List.pairwise_append.1 (hsplit ▸ handleNumbers_pairwise_lt s.cfg)).2.2 g hg h List.mem_cons_self
  simp [hleast g hlt]

/-- Settles O22: the least free slot is the one that the search finds. -/
theorem openBindsLeastFreeHandle : Obligations.OpenBindsLeastFreeHandle := by
  intro s h hp hh hfree hleast
  have hfind : freeHandle (s.received .openHandle) = some h := freeHandle_eq_some hh hfree hleast
  calc exec .openHandle s
      = openBody (s.received .openHandle) := whenAdmitted_idle hp
    _ = _ := by rw [openBody, hfind]

/-! ### CLOSE (R122) -/

/-- Settles O24: past the prologue CLOSE does nothing but free its slot. -/
theorem closeReleasesHandle : Obligations.CloseReleasesHandle := fun _ _ hr => onHandle_ready hr

/-! ### WRITE (R124) -/

section
variable {s : State} {h : Handle} {len : Half} {p : List Byte}

/-- A WRITE whose transfer lies in the frame stores its bytes, and then commits or moves the cursor. -/
theorem writeBody_of_le (hle : writeAddr s h + transferLen s len (writeAddr s h) ≤ s.fbBytes) :
    writeBody h len p false s
      = .next (writeDone h (writeAddr s h) (transferLen s len (writeAddr s h)) (storeBytes h len p s)) := by
  have hstore : s.memWrite (writeAddr s h) (transferLen s len (writeAddr s h)) p = some (storeBytes h len p s) :=
    State.memWrite_eq_some.2 ⟨hle, rfl⟩
  simp only [writeBody, Bool.false_eq_true, if_false, hstore]

theorem exec_write_ready (hr : s.ready h) (hle : writeAddr s h + transferLen s len (writeAddr s h) ≤ s.fbBytes) :
    exec (.write h len p false) s
      = .next (writeDone h (writeAddr s h) (transferLen s len (writeAddr s h))
          (storeBytes h len p (s.received (.write h len p false)))) :=
  (onHandle_ready hr).trans (writeBody_of_le hle)

/-- The frame after a WRITE: the payload's first n bytes from its start address on, every other byte as before (R60). -/
theorem storeBytes_read (hlen : p.length = len.toNat) (hwf : Memory.wf s.mem) (b : Nat) :
    (storeBytes h len p s).mem.read b
      = if writeAddr s h ≤ b ∧ b < writeAddr s h + transferLen s len (writeAddr s h) then p.getD (b - writeAddr s h) 0
        else s.mem.read b := by
  have htake : (p.take (transferLen s len (writeAddr s h))).length = transferLen s len (writeAddr s h) := by
    simp [transferLen, hlen]
  refine (Memory.read_writeBytes hwf ..).trans ?_
  rw [htake]
  split_ifs with hb
  · have hn : b - writeAddr s h < transferLen s len (writeAddr s h) := by omega
    simp [List.getD_eq_getElem?_getD, hn]
  · rfl

theorem storeBytes_wf (hwf : Memory.wf s.mem) : Memory.wf (storeBytes h len p s).mem := Memory.writeBytes_wf hwf ..

end

/-- Settles O25: below the boundary the cursor moves on, and the frame is as the copy left it. -/
theorem writeBelowTheBoundary : Obligations.WriteBelowTheBoundary := by
  intro s h len p hr hlen hwf hlt
  refine ⟨_, (exec_write_ready hr hlt.le).trans (congrArg _ (if_neg hlt.ne)), storeBytes_read hlen hwf, storeBytes_wf hwf,
    State.slot_setPos_self .., fun g hg => State.slot_setSlot_ne _ _ hg, ?_, rfl⟩
  simp

/-- Settles O26: at the boundary the commit starts, and the frame is as the copy left it. -/
theorem writeAtTheBoundaryCommits : Obligations.WriteAtTheBoundaryCommits := by
  intro s h len p hr hlen hwf heq
  exact ⟨_, (exec_write_ready hr heq.le).trans (congrArg _ (if_pos heq)), storeBytes_read hlen hwf, storeBytes_wf hwf,
    rfl, rfl, rfl, rfl⟩

/-! ### READ (R125, R126) -/

/-- Settles O27: the end of the frame is looked at before NB and XFER_ERR. -/
theorem readAtEndOfFrame : Obligations.ReadAtEndOfFrame := by
  intro s h nb len x hr hend
  exact (onHandle_ready hr).trans (if_pos hend)

/-- Settles O28: cursor 0 is not the end of a frame that has bytes, and blocking is looked at before XFER_ERR. -/
theorem blockingReadRegisters : Obligations.BlockingReadRegisters := by
  intro s h len x hr hzero hne
  have hend : (s.slot h).pos ≠ s.fbBytes := hzero ▸ hne.symm
  exact (onHandle_ready hr).trans ((if_neg hend).trans (if_pos ⟨hzero, rfl⟩))

/-- A READ that reaches its copy takes the bytes at the cursor and moves it. -/
theorem readNow_of_le {s : State} {h : Handle} {len : Half} (hle : (s.slot h).pos ≤ s.fbBytes) :
    readNow h len s
      = .next ((s.setPos h ((s.slot h).pos + transferLen s len (s.slot h).pos)).respond .ok h
          (transferLen s len (s.slot h).pos) (s.mem.readBytes (s.slot h).pos (transferLen s len (s.slot h).pos))) := by
  have hread := State.memRead_eq_some.2 ⟨pos_add_transferLen hle len, rfl⟩
  simp only [readNow, hread]

/-- Settles O29: a cursor below the boundary that does not block leads to the copy. -/
theorem immediateReadReturnsBytes : Obligations.ImmediateReadReturnsBytes := by
  intro s h nb len hr hlt hnow
  have hblock : ¬((s.slot h).pos = 0 ∧ nb = false) := by
    rintro ⟨hzero, rfl⟩
    simp [hzero] at hnow
  calc exec (.read h nb len false) s
      = readBody h nb len false (s.received (.read h nb len false)) := onHandle_ready hr
    _ = readNow h len (s.received (.read h nb len false)) := (if_neg hlt.ne).trans (if_neg hblock)
    _ = _ := readNow_of_le hlt.le

/-! ### CANCEL (R128) -/

/-- Settles O30: CANCEL asks for neither the port nor the serializer. -/
theorem cancelInterruptsBlockedRead : Obligations.CancelInterruptsBlockedRead := by
  intro s h hb hw
  exact (onCancel_bound hb).trans (if_pos hw)

/-- Settles O31: with no waiter the response is all there is. -/
theorem cancelWithoutWaiter : Obligations.CancelWithoutWaiter := by
  intro s h hb hw
  exact (onCancel_bound hb).trans (if_neg (by simpa using hw))

/-! ### Requests at a held port (R119) -/

theorem exec_held {s : State} {i : Instr} (hp : s.port ≠ .idle) (hi : i ≠ .cancel i.handle) : exec i s = .next s := by
  cases i with
  | openHandle => exact whenAdmitted_held hp
  | cancel h => exact absurd rfl hi
  | _ => exact onHandle_held hp

theorem isCancel_of_decodeRequest {r : Request} {h : Handle} (hd : decodeRequest r = .ok (.cancel h)) : isCancel r = true := by
  simp [isCancel, hd]

/-- Settles O41: a transaction other than CANCEL and an ILLEGAL request both wait. -/
theorem requestsAreHeldWithThePort : Obligations.RequestsAreHeldWithThePort := by
  intro s r hp hr
  obtain ⟨i, hd, hrun⟩ | ⟨e, -, hrun⟩ := runRequest_cases (r := r) (s := s) rfl
  · have hi : i ≠ .cancel i.handle := fun hi => by
      rw [hi] at hd
      simp [isCancel_of_decodeRequest hd] at hr
    exact hrun.symm.trans (exec_held hp hi)
  · exact hrun.symm.trans (illegalRequest_held hp)

/-! ### The waiters of a committed frame (R127, R153) -/

section
variable {s : State} {h : Handle}

@[simp] theorem frameReady_mem (g : Handle) (n : Nat) (s : State) : (frameReady g n s).mem = s.mem :=
  (releaseWaiters_countFrame_same s).mem

theorem waiterEvent_mem_waiterEvents (hh : h.toNat < s.cfg.maxHandles) {w : Waiter} (hw : (s.slot h).pend = some w) :
    waiterEvent s h w ∈ waiterEvents s :=
  List.mem_filterMap.2 ⟨h, mem_handleNumbers.2 hh, by simp [hw]⟩

theorem frameReady_slot_waiter {g : Handle} {n : Nat} (hh : h.toNat < s.cfg.maxHandles) (hne : h ≠ g) :
    (frameReady g n s).slot h = completedSlot s (s.slot h) := by
  rw [frameReady_slot, if_neg hne, releaseWaiters_countFrame_slot, if_pos hh]

theorem completedSlot_ok {v : Slot} {w : Waiter} (hw : v.pend = some w) (hx : w.xferErr = false) :
    completedSlot s v = ⟨v.isOpen, min w.maxLen.toNat s.fbBytes, none⟩ := by
  simp [completedSlot, hw, hx]

theorem waiterEvent_ok {w : Waiter} (hx : w.xferErr = false) :
    waiterEvent s h w
      = .resp (responseWord .ok h (min w.maxLen.toNat s.fbBytes)) (s.mem.readBytes 0 (min w.maxLen.toNat s.fbBytes)) := by
  simp [waiterEvent, hx]

end

/-- Settles O50: a waiter is bound and is not the committing handle, so its slot is as its turn left it, and its response is
among the waiters'. -/
theorem waitersGetTheCommittedFrame : Obligations.WaitersGetTheCommittedFrame := by
  intro s t h w hs hstep hw hx
  obtain ⟨g, n, hp, -, rfl⟩ := frameReadyStep_eq_some.1 hstep
  have hwait : s.waiting h = true := by simp [State.waiting, hw]
  have hh : h.toNat < s.cfg.maxHandles := lt_maxHandles_of_waiting hs.device hwait
  have hne : h ≠ g := by
    rintro rfl
    exact port_ne_of_waiting hs.device hwait n hp
  obtain ⟨hopen, -, -⟩ := hs.waiters h w hw
  refine ⟨?_, ?_, frameReady_mem ..⟩
  · rw [frameReady_slot_waiter hh hne, completedSlot_ok hw hx, hopen]
  · have hmem := waiterEvent_mem_waiterEvents hh hw
    rw [waiterEvent_ok hx] at hmem
    simp [frameReady_trace, hmem]

end Sys2Proof.Machine
end

section
/-! SUPPORT. The frame-ready step as a whole: what it leaves alone, the new value of CNT, and that CNT counts the frames
(spec/41_synchronizer.md). -/

namespace Sys2Proof.Machine

/-! ### The whole step (R153) -/

section
variable {s t : State} {h : Handle} {n : Nat}

theorem frameReadyStep_held (hp : s.port = .held h n) (hser : s.ser = .idle) : frameReadyStep s = some (frameReady h n s) :=
  frameReadyStep_eq_some.2 ⟨h, n, hp, hser, rfl⟩

theorem exists_frameReadyStep_iff : (∃ t, frameReadyStep s = some t) ↔ ∃ h n, s.port = .held h n ∧ s.ser = .idle := by
  constructor
  · rintro ⟨t, ht⟩
    obtain ⟨h, n, hp, hser, -⟩ := frameReadyStep_eq_some.1 ht
    exact ⟨h, n, hp, hser⟩
  · rintro ⟨h, n, hp, hser⟩
    exact ⟨_, frameReadyStep_held hp hser⟩

theorem SameButSlots.eq_with (same : SameButSlots s t) : t = { s with slots := t.slots, trace := t.trace } := by
  cases s
  cases t
  cases same
  simp_all

/-- Only CNT, the port, the slots and the trace change. -/
theorem frameReady_eq_with (h : Handle) (n : Nat) (s : State) :
    frameReady h n s
      = { s with
          cnt := (s.cnt + 1) % 2 ^ s.cfg.cntW, port := .idle, slots := (frameReady h n s).slots,
          trace := (frameReady h n s).trace } := by
  conv_lhs => rw [frameReady, (releaseWaiters_countFrame_same s).eq_with]
  rfl

@[simp] theorem frameReady_cnt (h : Handle) (n : Nat) (s : State) :
    (frameReady h n s).cnt = (s.cnt + 1) % 2 ^ s.cfg.cntW :=
  (releaseWaiters_countFrame_same s).cnt

end

/-- Settles O48: each slot is as its turn in the release left it, but for the committing handle's cursor. -/
theorem frameReadyStep_spec : Obligations.FrameReadyStep := by
  refine fun s => ⟨exists_frameReadyStep_iff, fun h n hp hser => ⟨_, frameReadyStep_held hp hser, ?_⟩⟩
  refine ⟨frameReady_cnt .., rfl, fun g hne hg => frameReady_slot_waiter hg hne, fun g hne hg => ?_, ?_, ?_, ?_⟩
  · rw [frameReady_slot, if_neg hne, releaseWaiters_countFrame_slot, if_neg (not_lt.2 hg)]
  · rw [frameReady_slot, if_pos rfl, releaseWaiters_countFrame_slot]
  · simp [frameReady_trace]
  · rw [frameReady_eq_with]

/-! ### The waiters (R154, R155) -/

/-- Settles O49: the release leaves no waiter, and the reset of the committing handle's cursor adds none. -/
theorem releaseIsBroadcast : Obligations.ReleaseIsBroadcast := by
  intro s t hs hstep h
  obtain ⟨g, n, -, -, rfl⟩ := frameReadyStep_eq_some.1 hstep
  have hpend : ((frameReady g n s).slot h).pend = none := by
    rw [frameReady_slot]
    split_ifs
    · exact releaseWaiters_pend hs.device g
    · exact releaseWaiters_pend hs.device h
  simp [State.waiting, hpend]

theorem one_le_cntW_of_wf {c : Config} (hc : c.wf = true) : 1 ≤ c.cntW := by
  simp only [Config.wf, decide_eq_true_eq] at hc
  omega

/-- Counting on modulo at least 2 never gives the same value, whether or not it wraps to 0. -/
theorem succ_mod_ne {v m : Nat} (hm : 2 ≤ m) (hv : v < m) : (v + 1) % m ≠ v := by
  obtain hlt | rfl : v + 1 < m ∨ v + 1 = m := by omega
  · rw [Nat.mod_eq_of_lt hlt]
    omega
  · rw [Nat.mod_self]
    omega

/-- Settles O51: the waiter observed the present CNT, and there are at least two values. -/
theorem releasedWaiterSeesANewCount : Obligations.ReleasedWaiterSeesANewCount := by
  intro s t h w hs hstep hw
  obtain ⟨g, n, -, -, rfl⟩ := frameReadyStep_eq_some.1 hstep
  obtain ⟨-, -, hv⟩ := hs.waiters h w hw
  have htwo : 2 ≤ 2 ^ s.cfg.cntW := Nat.le_self_pow (Nat.one_le_iff_ne_zero.1 (one_le_cntW_of_wf hs.config)) 2
  rw [frameReady_cnt, hv]
  exact ⟨rfl, succ_mod_ne htwo hs.counter⟩

/-! ### The frames that CNT counts (R152, R157) -/

section
variable {s t : State}

@[simp] theorem frames_append (l m : List Event) : frames (l ++ m) = frames l + frames m := List.countP_append

@[simp] theorem frames_nil : frames [] = 0 := rfl

@[simp] theorem frames_frameReady (c : Nat) (l : List Event) : frames (.frameReady c :: l) = frames l + 1 :=
  List.countP_cons_of_pos rfl

@[simp] theorem frames_req (w : Word) (l : List Event) : frames (.req w :: l) = frames l :=
  List.countP_cons_of_neg Bool.false_ne_true

@[simp] theorem frames_resp (w : Word) (d : List Byte) (l : List Event) : frames (.resp w d :: l) = frames l :=
  List.countP_cons_of_neg Bool.false_ne_true

@[simp] theorem frames_pinSet (p : Pin) (l : List Event) : frames (.pinSet p :: l) = frames l :=
  List.countP_cons_of_neg Bool.false_ne_true

@[simp] theorem frames_stepEvent (s : State) (st : SerStep) : frames [stepEvent s st] = 0 := by cases st <;> rfl

/-- The waiters get responses only. -/
@[simp] theorem frames_waiterEvents (s : State) : frames (waiterEvents s) = 0 := by
  refine List.countP_eq_zero.2 fun e he => ?_
  obtain ⟨h, -, hh⟩ := List.mem_filterMap.1 he
  obtain ⟨w, -, rfl⟩ := Option.map_eq_some_iff.1 hh
  unfold waiterEvent
  split_ifs <;> simp

theorem Effect.cnt {w : Word} (he : Effect w s t) : t.cnt = s.cnt := by cases he <;> rfl

/-- No transaction ends an emission. -/
theorem Effect.frames {w : Word} (he : Effect w s t) : frames t.trace = frames s.trace := by cases he <;> simp

/-- CNT is the number of frames, as far as its width goes. -/
def State.CountsFrames (s : State) : Prop := s.cnt = frames s.trace % 2 ^ s.cfg.cntW

theorem State.CountsFrames.congr (hs : s.CountsFrames) (hcfg : t.cfg = s.cfg) (hcnt : t.cnt = s.cnt)
    (hframes : frames t.trace = frames s.trace) : t.CountsFrames := by
  rwa [State.CountsFrames, hcfg, hcnt, hframes]

/-- The frame-ready step adds one to both sides. -/
theorem State.CountsFrames.frameReady (hs : s.CountsFrames) (h : Handle) (n : Nat) : (frameReady h n s).CountsFrames := by
  have hframes : frames (Machine.frameReady h n s).trace = frames s.trace + 1 := by simp [frameReady_trace]
  rw [State.CountsFrames, frameReady_cfg, frameReady_cnt, hframes, hs, Nat.mod_add_mod]

theorem Move.countsFrames (hm : Move s t) (hs : s.CountsFrames) : t.CountsFrames := by
  cases hm with
  | rest => exact hs
  | transaction he => exact hs.congr he.cfg he.cnt he.frames
  | pin => exact hs.congr (perform_cfg ..) (perform_cnt ..) (by simp)
  | frame => exact hs.frameReady ..

end

/-- Settles O57: every move keeps the count, and settling the clients touches neither CNT nor the trace. -/
theorem counterCountsFrames : Obligations.CounterCountsFrames := by
  refine ⟨fun c => (Nat.zero_mod _).symm, fun s t hs hstep => ?_⟩
  obtain rfl | ⟨cs, q, d, ds, v, hm, rfl, -⟩ := step_move hstep
  · exact hs
  · exact hm.countsFrames (s := s.withInputs cs q d) hs

end Sys2Proof.Machine
end

section
/-! SUPPORT. What can happen while an emission runs (spec/42_serializer.md R180, R188, R189): the port is held, so the block
admits nothing but CANCEL, and nothing that the emission reads changes. Then, that under the invariant no step faults. -/

namespace Sys2Proof.Machine

/-- Between `s` and `t` nothing has changed that an emission reads, nor the port or CNT (R180, R190). -/
structure Undisturbed (s t : State) : Prop where
  mem : t.mem = s.mem
  gt : t.gt = s.gt
  tClk : t.tClk = s.tClk
  tLat : t.tLat = s.tLat
  blankForce : t.blankForce = s.blankForce
  cfg : t.cfg = s.cfg
  port : t.port = s.port
  cnt : t.cnt = s.cnt

/-- SER after pin step k of an emission (R25). -/
def serAfter (c : Config) (k : Nat) : Ser := if k + 1 = c.emissionSteps then .idle else .run (k + 1)

theorem perform_ser_eq_serAfter {s : State} {k : Nat} {st : SerStep} (hst : emissionAt s k = some st) :
    (perform k s st).ser = serAfter s.cfg k := by
  rw [perform_ser, serAfter]
  simp only [← emissionAt_eq_finish s k, hst, Option.some.injEq]

theorem Undisturbed.refl (s : State) : Undisturbed s s := by constructor <;> rfl

theorem undisturbed_perform (k : Nat) (s : State) (st : SerStep) : Undisturbed s (perform k s st) := by
  constructor <;> simp

section
variable {s t : State}

/-- CANCEL touches nothing but a waiter (R128, R189). -/
theorem exec_cancel_undisturbed {h : Handle} (he : exec (.cancel h) s = .next t) : Undisturbed s t ∧ t.ser = s.ser := by
  cases exec_done he with
  | held _ hne => exact absurd rfl hne
  | answered | interrupted => exact ⟨by constructor <;> simp, by simp⟩

/-- At a held port every request waits but CANCEL (R119). -/
theorem runRequest_held_cases {r : Request} (hp : s.port ≠ .idle) (he : runRequest r s = .next t) :
    t = s ∨ ∃ h, exec (.cancel h) s = .next t := by
  obtain ⟨i, -, hi⟩ | ⟨e, -, hi⟩ := runRequest_cases he
  · by_cases hc : i = .cancel i.handle
    · exact .inr ⟨i.handle, hc ▸ hi⟩
    · cases (exec_held hp hc).symm.trans hi
      exact .inl rfl
  · cases (illegalRequest_held hp).symm.trans hi
    exact .inl rfl

/-- During an emission the clients and the interrupt source do not get at what it reads, only the serializer moves SER, and
the frame-ready step is not enabled (R153, R189). -/
theorem agentStep_undisturbed {c : Choice} {k : Nat} (hp : s.port ≠ .idle) (hk : s.ser = .run k)
    (he : agentStep c s = .next t) : Undisturbed s t ∧ (t.ser = s.ser ∨ t.ser = serAfter s.cfg k) := by
  have rest : Undisturbed s s ∧ (s.ser = s.ser ∨ s.ser = serAfter s.cfg k) := ⟨.refl s, .inl rfl⟩
  cases c with
  | client j =>
    obtain rfl | ⟨-, r, v, -, -, -, -, hr, rfl⟩ := clientStep_cases he
    · exact rest
    · obtain rfl | ⟨h, hx⟩ := runRequest_held_cases (s := s.takeRequest j) hp hr
      · rw [noteWait_eq]
        exact ⟨{ Undisturbed.refl s with }, .inl rfl⟩
      · obtain ⟨hv, hser⟩ := exec_cancel_undisturbed hx
        rw [noteWait_eq]
        exact ⟨{ hv with }, .inl hser⟩
  | interrupt =>
    obtain rfl | ⟨g, q, -, hx⟩ := interruptStep_cases he
    · exact rest
    · obtain ⟨hu, hser⟩ := exec_cancel_undisturbed hx
      exact ⟨{ hu with }, .inl hser⟩
  | serializer =>
    cases he
    cases hs : serializerStep s with
    | none => exact rest
    | some u =>
      obtain ⟨m, st, hm, hst, rfl⟩ := serializerStep_eq_some.1 hs
      cases hk.symm.trans hm
      exact ⟨undisturbed_perform .., .inr (perform_ser_eq_serAfter hst)⟩
  | frameReady =>
    have hnone : frameReadyStep s = none := by simp [frameReadyStep, hk]
    cases he
    rw [hnone]
    exact rest

end

theorem port_ne_idle_of_run {s : State} {k : Nat} (hs : s.Inv) (hk : s.ser = .run k) : s.port ≠ .idle := fun hp => by
  cases hk.symm.trans (hs.exclusive hp)

/-- Settles O56: the port is held as long as SER runs, so no agent gets at what the emission reads, and only the serializer moves
SER. -/
theorem emissionIsNotDisturbed : Obligations.EmissionIsNotDisturbed := by
  intro s t k hs hk hstep
  have hp := port_ne_idle_of_run hs hk
  obtain ⟨-, ⟨-, rfl⟩ | ⟨c, u, -, hu, rfl⟩⟩ := step_cases hstep
  · exact ⟨rfl, rfl, rfl, rfl, rfl, rfl, rfl, rfl, .inl hk⟩
  · obtain ⟨hsame, hser⟩ :=
      agentStep_undisturbed (s := { s with sched := s.sched.tail }) (k := k) hp hk hu
    exact ⟨hsame.mem, hsame.gt, hsame.tClk, hsame.tLat, hsame.blankForce, hsame.cfg, hsame.port, hsame.cnt,
      hser.imp_left (·.trans hk)⟩

/-! ### No transaction faults (R188, R220) -/

section
variable {s : State} {i : Instr} {h : Handle} {body : State → Result}

theorem onHandle_answers (hbody : ∃ t, body (s.received i) = .next t) : ∃ t, onHandle i h body s = .next t := by
  obtain ⟨-, ho⟩ | ⟨-, -, ho⟩ | ⟨-, -, -, ho⟩ | ⟨-, ho⟩ := onHandle_cases (i := i) (h := h) (body := body) (s := s) rfl
  · exact ⟨_, ho⟩
  · exact ⟨_, ho⟩
  · exact ⟨_, ho⟩
  · exact ho ▸ hbody

theorem ctrlBody_answers (size : Half) (h : Handle) (len : Half) (x : Bool) (f : State → State) (s : State) :
    ∃ t, ctrlBody size h len x f s = .next t := by
  obtain ⟨-, ho⟩ | ⟨-, -, ho⟩ | ⟨-, -, ho⟩ :=
    ctrlBody_cases (size := size) (h := h) (len := len) (x := x) (f := f) (s := s) rfl
  · exact ⟨_, ho⟩
  · exact ⟨_, ho⟩
  · exact ⟨_, ho⟩

/-- From a cursor within the frame a WRITE's bytes lie within it (R64). -/
theorem writeBody_answers (hpos : (s.slot h).pos ≤ s.fbBytes) (len : Half) (p : List Byte) (x : Bool) :
    ∃ t, writeBody h len p x s = .next t := by
  cases x with
  | true => exact ⟨_, rfl⟩
  | false => exact ⟨_, writeBody_of_le (writeAddr_add_transferLen hpos len)⟩

/-- From a cursor within the frame a READ's bytes lie within it (R64). -/
theorem readBody_answers (hpos : (s.slot h).pos ≤ s.fbBytes) (nb : Bool) (len : Half) (x : Bool) :
    ∃ t, readBody h nb len x s = .next t := by
  unfold readBody
  split_ifs
  · exact ⟨_, rfl⟩
  · exact ⟨_, rfl⟩
  · exact ⟨_, rfl⟩
  · exact ⟨_, readNow_of_le hpos⟩

theorem openBody_answers (s : State) : ∃ t, openBody s = .next t := by
  unfold openBody
  split <;> exact ⟨_, rfl⟩

theorem whenAdmitted_answers (hbody : ∃ t, body (s.received i) = .next t) : ∃ t, whenAdmitted i body s = .next t := by
  by_cases hp : s.port = .idle
  · exact whenAdmitted_idle hp ▸ hbody
  · exact ⟨_, whenAdmitted_held hp⟩

theorem execCancel_answers (h : Handle) (s : State) : ∃ t, execCancel h s = .next t := by
  unfold execCancel
  cases hb : s.bound h
  · exact ⟨_, onCancel_badHandle hb⟩
  · rw [onCancel_bound hb, cancelBody]
    split_ifs <;> exact ⟨_, rfl⟩

/-- With every cursor within the frame each transaction has a next state (R220). -/
theorem exec_answers (hpos : ∀ h, (s.slot h).pos ≤ s.fbBytes) (i : Instr) : ∃ t, exec i s = .next t := by
  cases i with
  | openHandle => exact whenAdmitted_answers (openBody_answers _)
  | close h => exact onHandle_answers ⟨_, rfl⟩
  | write h len p x => exact onHandle_answers (writeBody_answers (s := s.received _) (hpos h) len p x)
  | read h nb len x => exact onHandle_answers (readBody_answers (s := s.received _) (hpos h) nb len x)
  | setLatchDelay | setClockDelay | setGamma | setBlank => exact onHandle_answers (ctrlBody_answers ..)
  | ctrlUnsupported4To7 | ctrlUnsupported8To15 => exact onHandle_answers ⟨_, rfl⟩
  | cancel h => exact execCancel_answers h s

theorem runRequest_answers (hpos : ∀ h, (s.slot h).pos ≤ s.fbBytes) (r : Request) : ∃ t, runRequest r s = .next t := by
  obtain ⟨i, -, ho⟩ | ⟨e, -, ho⟩ := runRequest_cases (r := r) (s := s) rfl
  · exact ho ▸ exec_answers hpos i
  · rw [← ho]
    by_cases hp : s.port = .idle
    · exact ⟨_, illegalRequest_idle hp⟩
    · exact ⟨_, illegalRequest_held hp⟩

/-- A client's step is refused only where what it presents is no request (R90). -/
theorem clientStep_answers_or_refused (hpos : ∀ h, (s.slot h).pos ≤ s.fbBytes) (k : Nat) :
    (∃ t, clientStep k s = .next t) ∨ clientStep k s = .refused .unframedRequest := by
  unfold clientStep
  split
  · exact .inl ⟨_, rfl⟩
  · next r _ =>
    split_ifs
    · obtain ⟨t, ht⟩ := runRequest_answers (s := s.takeRequest k) hpos r
      exact .inl ⟨_, by rw [ht]; rfl⟩
    · exact .inr rfl
    · exact .inl ⟨_, rfl⟩

theorem agentStep_answers_or_refused (hpos : ∀ h, (s.slot h).pos ≤ s.fbBytes) (c : Choice) :
    (∃ t, agentStep c s = .next t) ∨ agentStep c s = .refused .unframedRequest := by
  cases c with
  | client k => exact clientStep_answers_or_refused hpos k
  | interrupt =>
    refine .inl ?_
    unfold agentStep interruptStep
    cases s.irq with
    | nil => exact ⟨_, rfl⟩
    | cons h q => exact execCancel_answers h _
  | serializer | frameReady => exact .inl ⟨_, rfl⟩

/-- Under the invariant a step has a next state, unless a client presents what is no request (R188, R220). -/
theorem step_answers_or_refused (hs : s.Inv) : (∃ t, step s = .next t) ∨ step s = .refused .unframedRequest := by
  cases hc : nextChoice s with
  | none => exact .inl ⟨s, by simp [step, deviceStep, hs.config, hc]⟩
  | some c =>
    rw [step_of_choice hs.config hc]
    obtain ⟨t, ht⟩ | hr := agentStep_answers_or_refused (s := { s with sched := s.sched.tail }) hs.cursors c
    · exact .inl ⟨settle t, by rw [ht]; rfl⟩
    · exact .inr (by rw [hr]; rfl)

end

/-- Settles O55: every answer of a step is a next state or the refusal of an unframed input. -/
theorem noFaultUnderTheInvariant : Obligations.NoFaultUnderTheInvariant := by
  intro s hs
  obtain ⟨t, ht⟩ | hr := step_answers_or_refused hs
  · simp [ht]
  · simp [hr]

end Sys2Proof.Machine
end

section
/-! SUPPORT. The data path bit by bit (spec/42_serializer.md R177, R178, R185). -/

namespace Sys2Proof.Machine

theorem lt_doutW_of_mem_lines {c : Config} (hc : c.wf = true) {p : Nat} (hp : p ∈ c.lines) : p < c.doutW := by
  simp only [Config.wf, decide_eq_true_eq] at hc
  obtain ⟨-, -, -, -, -, -, -, -, -, -, hlt, -⟩ := hc
  exact hlt p hp

/-- Settles O13: ORing the lines' bits at their positions, each of which the 64-bit DOUT has. -/
theorem dataWordBits : Obligations.DataWordBits := by
  intro s cc j p hc
  have hlt : p ∈ s.cfg.lines → p < 64 := fun hp =>
    (lt_doutW_of_mem_lines hc hp).trans_le (doutW_le_of_wf hc)
  rw [dataWord, getLsbD_foldl_or_shiftLeft, lineBit]
  by_cases hp : p ∈ s.cfg.lines
  · simp [hp, hlt hp]
  · simp [hp]

/-- R178's N-bit register after a pulse: shifted left by one. -/
def shiftPulse (n : Nat) (v : Half) : Half := (v <<< 1) &&& maskBits 16 n

/-- Each pulse moves the bits up by one, and 0 comes in from below (R178). -/
theorem getLsbD_iterate_shiftPulse {n b : Nat} (hn : n ≤ 16) (hb : b < n) (v : Half) (j : Nat) :
    ((shiftPulse n)^[j] v).getLsbD b = (decide (j ≤ b) && v.getLsbD (b - j)) := by
  induction j generalizing b with
  | zero => simp
  | succ j ih =>
    rw [Function.iterate_succ_apply', shiftPulse, BitVec.getLsbD_and, BitVec.getLsbD_shiftLeft, getLsbD_maskBits]
    cases b with
    | zero => simp
    | succ b => simp [ih (b := b) (by omega), hb, show b + 1 < 16 by omega]

theorem gammaBits_of_wf {c : Config} (hc : c.wf = true) : 1 ≤ c.gammaBits ∧ c.gammaBits ≤ 16 := by
  simp only [Config.wf, decide_eq_true_eq] at hc
  omega

/-- Settles O14: after j pulses the register's top bit is the code's bit N - 1 - j, and 0 once the code is shifted out. -/
theorem shiftRegisterGivesTheSameBits : Obligations.ShiftRegisterGivesTheSameBits := by
  intro s cc j p hc
  obtain ⟨hlo, hhi⟩ := gammaBits_of_wf hc
  refine (getLsbD_iterate_shiftPulse hhi (by omega) _ j).trans ?_
  rw [lineBit, decide_eq_decide.2 (show j ≤ s.cfg.gammaBits - 1 ↔ j < s.cfg.gammaBits by omega)]

/-- Settles O16: the mask inverts the bits below DOUT_W, and no other. -/
theorem dataPolarity : Obligations.DataPolarity := by
  intro c w b hd
  rw [getLsbD_dlevel hd]
  split_ifs with hb <;> simp [hb, Config.dataLevel]

end Sys2Proof.Machine
end

section
/-! SUPPORT. What a serializer step writes and reads, and what all the steps of an emission come to (spec/42_serializer.md R180
to R190). -/

namespace Sys2Proof.Machine

/-! ### What a step writes and reads (R190) -/

/-- `t` with all that the serializer writes as it is in `s`: SER, BLANK_SER, the pins and the trace (R190). -/
def State.withDisplayOf (t s : State) : State :=
  { t with
    ser := s.ser, trace := s.trace, blankSer := s.blankSer, blank := s.blank, clk := s.clk, lat := s.lat, dout := s.dout }

/-- `t` differs from `s` in nothing but what the serializer writes. -/
def SameButDisplay (s t : State) : Prop := t.withDisplayOf s = s

section
variable {s t u : State}

theorem SameButDisplay.refl (s : State) : SameButDisplay s s := rfl

theorem SameButDisplay.trans (h : SameButDisplay s t) (k : SameButDisplay t u) : SameButDisplay s u :=
  calc u.withDisplayOf s = (u.withDisplayOf t).withDisplayOf s := rfl
    _ = t.withDisplayOf s := congrArg (State.withDisplayOf · s) k
    _ = s := h

theorem SameButDisplay.cfg (h : SameButDisplay s t) : t.cfg = s.cfg := (congrArg State.cfg h :)
theorem SameButDisplay.mem (h : SameButDisplay s t) : t.mem = s.mem := (congrArg State.mem h :)
theorem SameButDisplay.gt (h : SameButDisplay s t) : t.gt = s.gt := (congrArg State.gt h :)
theorem SameButDisplay.tClk (h : SameButDisplay s t) : t.tClk = s.tClk := (congrArg State.tClk h :)
theorem SameButDisplay.tLat (h : SameButDisplay s t) : t.tLat = s.tLat := (congrArg State.tLat h :)
theorem SameButDisplay.blankForce (h : SameButDisplay s t) : t.blankForce = s.blankForce := (congrArg State.blankForce h :)

theorem perform_sameButDisplay (k : Nat) (s : State) (st : SerStep) : SameButDisplay s (perform k s st) := by
  cases st <;> rfl

/-- What an emission consists of, and the events that it records, are fixed at the commit (R180). -/
theorem SameButDisplay.emission (h : SameButDisplay s t) : emission t = emission s :=
  emission_congr_code h.cfg h.mem fun v => by simp only [code, h.cfg, h.gt]

theorem SameButDisplay.stepEvent (h : SameButDisplay s t) : stepEvent t = stepEvent s := by
  funext st
  cases st <;> simp only [Machine.stepEvent, h.cfg, h.tClk, h.tLat, h.blankForce]

end

/-- Settles O21: every pin step writes only the display, and it reads none of the elements that are replaced. -/
theorem serializerReadsAndWritesOnly : Obligations.SerializerReadsAndWritesOnly := by
  refine ⟨fun s t hstep => ?_, fun s t slots cnt port clients irq sched hstep => ?_⟩
  · obtain ⟨k, st, -, -, rfl⟩ := serializerStep_eq_some.1 hstep
    exact perform_sameButDisplay k s st
  · obtain ⟨k, st, hk, hst, rfl⟩ := serializerStep_eq_some.1 hstep
    refine serializerStep_eq_some.2 ⟨k, st, hk, hst, ?_⟩
    cases st <;> rfl

/-! ### The length and the duration of an emission (R182, R187) -/

theorem emissionSteps_eq (c : Config) : c.emissionSteps = 15 * c.cols * c.nativeBits + 6 := by
  rw [Config.emissionSteps, Config.pulses]
  ring

theorem length_emission (s : State) : (emission s).length = s.cfg.emissionSteps := by
  simp only [emission_eq_pulseList, List.length_cons, List.length_append, length_pulseList, latchSteps, List.length_nil,
    Config.emissionSteps]
  omega

/-- A step that starts a pulse: the one that puts a word on DOUT (R181). -/
def SerStep.isDout : SerStep → Bool
  | .dout _ => true
  | _ => false

theorem countP_ccSteps (s : State) (cc : Nat) : (ccSteps s cc).countP SerStep.isDout = s.cfg.nativeBits := by
  have hpulse (w : DoutWord) : (pulseSteps w).countP SerStep.isDout = 1 := rfl
  simp [ccSteps, List.countP_flatMap, Function.comp_def, hpulse]

theorem countP_pulseList (s : State) : (pulseList s).countP SerStep.isDout = s.cfg.pulses := by
  simp [pulseList, List.countP_flatMap, Function.comp_def, countP_ccSteps, Config.pulses]

/-- Settles O18: of the steps the pulses put a word on DOUT once each, and the blank, the latch and the end never. -/
theorem emissionLength : Obligations.EmissionLength := by
  intro s
  refine ⟨(length_emission s).trans (emissionSteps_eq _), emissionSteps_eq _, ?_⟩
  change (emission s).countP SerStep.isDout = s.cfg.pulses
  rw [emission_eq_pulseList, List.countP_cons_of_neg (by decide), List.countP_append, countP_pulseList]
  rfl

@[simp] theorem minDuration_nil : minDuration [] = 0 := rfl

@[simp] theorem minDuration_append (l m : List Event) : minDuration (l ++ m) = minDuration l + minDuration m := by
  simp [minDuration]

@[simp] theorem minDuration_delay (d : Word) (l : List Event) : minDuration (.delay d :: l) = d.toNat + minDuration l := by
  simp [minDuration]

@[simp] theorem minDuration_pinSet (p : Pin) (l : List Event) : minDuration (.pinSet p :: l) = minDuration l := by
  simp [minDuration]

/-- Blocks of one duration add up. -/
theorem minDuration_flatMap {α : Type} {f : α → List Event} {n : Nat} (hf : ∀ a, minDuration (f a) = n) (l : List α) :
    minDuration (l.flatMap f) = l.length * n := by
  induction l with
  | nil => simp
  | cons a l ih => rw [List.flatMap_cons, minDuration_append, hf, ih, List.length_cons]; ring

/-- A pulse lasts for two clock delays (R181). -/
theorem minDuration_pulseSteps (s : State) (w : DoutWord) :
    minDuration ((pulseSteps w).map (stepEvent s)) = 2 * s.tClk.toNat := by
  simp only [pulseSteps, List.map_cons, List.map_nil, stepEvent, minDuration_pinSet, minDuration_delay, minDuration_nil]
  omega

theorem minDuration_ccSteps (s : State) (cc : Nat) :
    minDuration ((ccSteps s cc).map (stepEvent s)) = s.cfg.nativeBits * (2 * s.tClk.toNat) := by
  rw [ccSteps, List.map_flatMap, minDuration_flatMap fun _ => minDuration_pulseSteps .., List.length_range]

theorem minDuration_pulseList (s : State) :
    minDuration ((pulseList s).map (stepEvent s)) = s.cfg.pulses * (2 * s.tClk.toNat) := by
  rw [pulseList, List.map_flatMap, minDuration_flatMap fun _ => minDuration_ccSteps .., List.length_range, Config.pulses,
    mul_assoc (3 * s.cfg.cols)]

/-- The latch pulse lasts for two latch delays (R183), and the end takes no time. -/
theorem minDuration_latchSteps_finish (s : State) :
    minDuration ((latchSteps ++ [SerStep.finish]).map (stepEvent s)) = 2 * s.tLat.toNat := by
  simp only [latchSteps, List.cons_append, List.nil_append, List.map_cons, List.map_nil, stepEvent, minDuration_pinSet,
    minDuration_delay, minDuration_nil]
  omega

/-- Settles O20: two clock delays for each pulse, and two latch delays. -/
theorem emissionDuration : Obligations.EmissionDuration := by
  intro s
  rw [emission_eq_pulseList, List.map_cons, stepEvent, minDuration_pinSet, List.map_append, minDuration_append,
    minDuration_pulseList, minDuration_latchSteps_finish, mul_comm s.cfg.pulses, Config.pulses]

/-! ### The serializer's run through an emission (R180, R189) -/

/-- The steps of a list performed in order, the first as step k. -/
def performFrom (k : Nat) (s : State) : List SerStep → State
  | [] => s
  | st :: l => performFrom (k + 1) (perform k s st) l

section
variable {s : State} {k : Nat}

theorem performFrom_append (k : Nat) (s : State) (l m : List SerStep) :
    performFrom k s (l ++ m) = performFrom (k + l.length) (performFrom k s l) m := by
  induction l generalizing k s with
  | nil => rfl
  | cons st l ih => rw [List.cons_append, performFrom, ih, List.length_cons, Nat.add_right_comm, ← add_assoc]; rfl

theorem performFrom_sameButDisplay (k : Nat) (s : State) (l : List SerStep) : SameButDisplay s (performFrom k s l) := by
  induction l generalizing k s with
  | nil => exact .refl s
  | cons st l ih => exact (perform_sameButDisplay k s st).trans (ih ..)

/-- Each step records its event, one event a step (R180). -/
theorem performFrom_trace (k : Nat) (s : State) (l : List SerStep) :
    (performFrom k s l).trace = s.trace ++ l.map (stepEvent s) := by
  induction l generalizing k s with
  | nil => simp [performFrom]
  | cons st l ih => simp [performFrom, ih, (perform_sameButDisplay k s st).stepEvent]

theorem serializerRun_succ {st : SerStep} (hk : s.ser = .run k) (hst : emissionAt s k = some st) (n : Nat) :
    serializerRun (n + 1) s = serializerRun n (perform k s st) := by
  rw [serializerRun, serializerStep_eq_some.2 ⟨k, st, hk, hst, rfl⟩]

/-- A step that is not the last leaves SER at the next index (R25). -/
theorem perform_ser_of_lt {st : SerStep} (hst : emissionAt s k = some st) (hlt : k + 1 < s.cfg.emissionSteps) :
    (perform k s st).ser = .run (k + 1) := by
  rw [perform_ser_eq_serAfter hst, serAfter, if_neg hlt.ne]

/-- Before its end the run is at the index that it has come to. -/
theorem serializerRun_ser {n : Nat} (hk : s.ser = .run k) (hn : k + n < s.cfg.emissionSteps) :
    (serializerRun n s).ser = .run (k + n) := by
  induction n generalizing k s with
  | zero => exact hk
  | succ n ih =>
    obtain ⟨st, hst⟩ := Option.isSome_iff_exists.1 ((emissionAt_isSome s k).2 (by omega))
    rw [serializerRun_succ hk hst, ih (perform_ser_of_lt hst (by omega)) (by rw [perform_cfg]; omega), Nat.add_right_comm,
      add_assoc]

/-- From step k on the run performs what is left of EMIT (R189). -/
theorem serializerRun_eq_performFrom {l : List SerStep} (hc : s.cfg.wf = true) (hk : s.ser = .run k)
    (hl : (emission s).drop k = l) : serializerRun l.length s = performFrom k s l := by
  induction l generalizing k s with
  | nil => rfl
  | cons st l ih =>
    have hst : emissionAt s k = some st := by
      rw [serializerFollowsEmit s k hc, ← Nat.add_zero k, ← List.getElem?_drop, hl]
      rfl
    have htail : (emission (perform k s st)).drop (k + 1) = l := by
      rw [(perform_sameButDisplay k s st).emission, ← List.drop_drop, hl]
      rfl
    rw [List.length_cons, serializerRun_succ hk hst, performFrom]
    cases l with
    | nil => rfl
    | cons st' l =>
      have hlen := congrArg List.length hl
      simp only [List.length_drop, length_emission, List.length_cons] at hlen
      exact ih (by rwa [perform_cfg]) (perform_ser_of_lt hst (by omega)) htail

theorem serializerRun_emissionSteps (hc : s.cfg.wf = true) (hk : s.ser = .run 0) :
    serializerRun s.cfg.emissionSteps s = performFrom 0 s (emission s) := by
  rw [← length_emission, serializerRun_eq_performFrom hc hk List.drop_zero]

end

/-! ### Its last steps (R181, R183, R184) -/

/-- The word of the last pulse. -/
def lastWord (s : State) : DoutWord := dataWord s (s.cfg.ccAt (3 * s.cfg.cols - 1)) (s.cfg.nativeBits - 1)

/-- The last pulse, the latch and the end. -/
def lastSteps (w : DoutWord) : List SerStep := pulseSteps w ++ (latchSteps ++ [.finish])

/-- What is performed last in an emission sets every pin, whatever state it begins in. -/
theorem performFrom_lastSteps (k : Nat) (s : State) (w : DoutWord) :
    (performFrom k s (lastSteps w)).ser = .idle
    ∧ (performFrom k s (lastSteps w)).blankSer = false
    ∧ (performFrom k s (lastSteps w)).blank = s.cfg.blankLevel s.blankForce
    ∧ (performFrom k s (lastSteps w)).clk = s.cfg.clkLevel false
    ∧ (performFrom k s (lastSteps w)).lat = s.cfg.latLevel false
    ∧ (performFrom k s (lastSteps w)).dout = s.cfg.dlevel w := by
  simp [lastSteps, pulseSteps, latchSteps, performFrom, perform_ser, perform_blankSer, perform_blank, perform_clk,
    perform_lat, perform_dout]

/-- A nonempty range of blocks ends with the block of its last number. -/
theorem exists_flatMap_range_eq_append {α : Type} (f : Nat → List α) {n : Nat} (hn : 1 ≤ n) :
    ∃ l, (List.range n).flatMap f = l ++ f (n - 1) := by
  obtain ⟨n, rfl⟩ := Nat.exists_eq_add_of_le' hn
  exact ⟨(List.range n).flatMap f, by simp [List.range_succ]⟩

theorem one_le_cols_nativeBits_of_wf {c : Config} (hc : c.wf = true) : 1 ≤ c.cols ∧ 1 ≤ c.nativeBits := by
  simp only [Config.wf, decide_eq_true_eq] at hc
  omega

/-- There is at least one pulse, so EMIT ends as stated. -/
theorem exists_emission_eq_append_lastSteps {s : State} (hc : s.cfg.wf = true) :
    ∃ l, emission s = l ++ lastSteps (lastWord s) := by
  obtain ⟨hcols, hbits⟩ := one_le_cols_nativeBits_of_wf hc
  obtain ⟨l, hl⟩ := exists_flatMap_range_eq_append (fun q => ccSteps s (s.cfg.ccAt q)) (n := 3 * s.cfg.cols) (by omega)
  obtain ⟨m, hm⟩ := exists_flatMap_range_eq_append
    (fun j => pulseSteps (dataWord s (s.cfg.ccAt (3 * s.cfg.cols - 1)) j)) hbits
  refine ⟨.blankOn :: (l ++ m), ?_⟩
  rw [emission_eq_pulseList, pulseList, hl, ccSteps, hm, lastSteps, lastWord]
  simp only [List.cons_append, List.append_assoc]

/-- The pins after all of EMIT are as its last steps set them (R181, R183, R184). -/
theorem performFrom_emission_pins {s : State} (hc : s.cfg.wf = true) :
    (performFrom 0 s (emission s)).ser = .idle
    ∧ (performFrom 0 s (emission s)).blankSer = false
    ∧ (performFrom 0 s (emission s)).blank = s.cfg.blankLevel s.blankForce
    ∧ (performFrom 0 s (emission s)).clk = s.cfg.clkLevel false
    ∧ (performFrom 0 s (emission s)).lat = s.cfg.latLevel false
    ∧ (performFrom 0 s (emission s)).dout = s.cfg.dlevel (lastWord s) := by
  obtain ⟨l, hl⟩ := exists_emission_eq_append_lastSteps hc
  have hbefore := performFrom_sameButDisplay 0 s l
  rw [hl, performFrom_append]
  simpa only [hbefore.cfg, hbefore.blankForce] using performFrom_lastSteps (0 + l.length) (performFrom 0 s l) (lastWord s)

/-- Settles O19: the run performs the whole of EMIT, and its last steps leave the pins as stated. -/
theorem emissionRunsToItsEnd : Obligations.EmissionRunsToItsEnd := by
  intro s hc hk
  rw [serializerRun_emissionSteps hc hk]
  obtain ⟨hser, hblankSer, hblank, hclk, hlat, hdout⟩ := performFrom_emission_pins hc
  refine ⟨fun k hlt => ?_, hser, performFrom_trace .., hblankSer, hblank, hclk, hlat, hdout, performFrom_sameButDisplay ..⟩
  simpa using serializerRun_ser hk (n := k) (by simpa using hlt)

end Sys2Proof.Machine
end

section
/-! SUPPORT. The Control Plane commands from a ready handle (spec/43_control.md R203 to R206): the numbers that a payload's bytes
make up (spec/00_scope.md R14), and the command past its checks. -/

namespace Sys2Proof.Machine

/-! ### The fields of a payload as numbers (R14) -/

section
variable {l : List Byte} {k : Nat}

/-- The byte appended last is the least significant one. -/
theorem toNat_append_byte {n : Nat} (a : BitVec n) (b : Byte) : (a ++ b).toNat = b.toNat + 2 ^ 8 * a.toNat := by
  rw [BitVec.toNat_append, ← Nat.shiftLeft_add_eq_or_of_lt b.isLt, Nat.shiftLeft_eq, add_comm, mul_comm]

theorem toNat_le16 : (le16 l k).toNat = (byteAt l k).toNat + 256 * (byteAt l (k + 1)).toNat := toNat_append_byte ..

theorem toNat_le32 :
    (le32 l k).toNat = (byteAt l k).toNat + 2 ^ 8 * (byteAt l (k + 1)).toNat + 2 ^ 16 * (byteAt l (k + 2)).toNat
      + 2 ^ 24 * (byteAt l (k + 3)).toNat := by
  simp only [le32, toNat_append_byte]
  omega

theorem le32_eq_ofNat :
    le32 l k = BitVec.ofNat 32 ((byteAt l k).toNat + 2 ^ 8 * (byteAt l (k + 1)).toNat + 2 ^ 16 * (byteAt l (k + 2)).toNat
      + 2 ^ 24 * (byteAt l (k + 3)).toNat) := by
  rw [← toNat_le32, BitVec.ofNat_toNat, BitVec.setWidth_eq]

theorem le32_eq_zero_iff :
    le32 l k = 0#32
      ↔ byteAt l k = 0#8 ∧ byteAt l (k + 1) = 0#8 ∧ byteAt l (k + 2) = 0#8 ∧ byteAt l (k + 3) = 0#8 := by
  simp only [← BitVec.toNat_inj, toNat_le32, BitVec.toNat_ofNat, Nat.zero_mod]
  omega

end

/-- A payload of four bytes is nonzero as a number when it is not four zeros (R206). -/
theorem le32_bne_zero {p : List Byte} (hp : p.length = 4) : (le32 p 0 != 0) = !decide (p = [0, 0, 0, 0]) := by
  obtain ⟨b0, b1, b2, b3, rfl⟩ := List.length_eq_four.1 hp
  have hzero : le32 [b0, b1, b2, b3] 0 = 0 ↔ [b0, b1, b2, b3] = [0, 0, 0, 0] := by simp [le32_eq_zero_iff, byteAt]
  rw [bne, beq_eq_decide, decide_eq_decide.2 hzero]

/-- SET_GAMMA's entry i is the 16-bit number at byte 2i (R61, R205). -/
theorem getElem_gammaOf (p : List Byte) (i : Fin 256) : (gammaOf p)[i] = le16 p (2 * i.val) := Vector.getElem_ofFn ..

/-! ### A command past its checks (R202) -/

/-- A command of the right size, on a ready handle and without XFER_ERR, has its effect and responds OK. -/
theorem ctrl_ready {i : Instr} {s : State} {h : Handle} (hr : s.ready h) (size : Half) (f : State → State) :
    onHandle i h (ctrlBody size h size false f) s = .next ((f (s.received i)).respond .ok h 0 []) := by
  rw [onHandle_ready hr, ctrlBody, if_neg (not_not.2 rfl), if_neg Bool.false_ne_true]

/-- Settles O32: the value that T_LAT gets is the payload's four bytes as a number. -/
theorem setLatchDelayWritesLatchDelay : Obligations.SetLatchDelayWritesLatchDelay := by
  intro s h b0 b1 b2 b3 hr
  refine (ctrl_ready hr delaySize _).trans ?_
  rw [le32_eq_ofNat]
  rfl

/-- Settles O33: the value that T_CLK gets is the payload's four bytes as a number. -/
theorem setClockDelayWritesClockDelay : Obligations.SetClockDelayWritesClockDelay := by
  intro s h b0 b1 b2 b3 hr
  refine (ctrl_ready hr delaySize _).trans ?_
  rw [le32_eq_ofNat]
  rfl

/-- Settles O34: entry i of the new table is the 16-bit number at byte 2i, and no other element but the trace is written. -/
theorem setGammaReplacesTheTable : Obligations.SetGammaReplacesTheTable := by
  intro s h p hr hp
  refine ⟨_, ctrl_ready hr gammaSize _, fun i => ?_, ?_, ?_⟩
  · rw [State.respond_gt, setGamma_gt, getElem_gammaOf, toNat_le16, byteAt, byteAt]
  · simp
  · simp

/-- Settles O35: the new BLANK_FORCE is the payload's test for nonzero, and the three events come one at a time. -/
theorem setBlankForcesThePin : Obligations.SetBlankForcesThePin := by
  intro s h p hr hp
  refine (ctrl_ready hr delaySize _).trans ?_
  rw [le32_bne_zero hp, List.append_cons, List.append_cons]
  rfl

end Sys2Proof.Machine
end

section
/-! SUPPORT. The outcomes that change nothing but the trace (spec/60_exceptions.md R221 to R228), and the configurations for
which there is no device (R229). -/

namespace Sys2Proof.Machine

/-! ### No device (R229) -/

theorem bringUp_of_wf {c : Config} (hc : c.wf = true) : bringUp c = .next (State.resetWith c) := if_pos hc

theorem bringUp_of_not_wf {c : Config} (hc : c.wf = false) : bringUp c = .refused .illFormedConfig := if_neg (by simp [hc])

theorem step_of_not_wf {s : State} (hc : s.cfg.wf = false) : step s = .refused .illFormedConfig := if_neg (by simp [hc])

/-- Settles O9: bring-up and every step check the configuration first. -/
theorem illFormedConfigurationRefused : Obligations.IllFormedConfigurationRefused :=
  ⟨fun _ => bringUp_of_not_wf, fun _ => step_of_not_wf, fun _ => bringUp_of_wf⟩

/-! ### No free slot (R228) -/

theorem freeHandle_eq_none {s : State} (hfull : ∀ g : Handle, g.toNat < s.cfg.maxHandles → (s.slot g).isOpen = true) :
    freeHandle s = none :=
  List.find?_eq_none.2 fun g hg => by simp [hfull g (mem_handleNumbers.1 hg)]

/-- Settles O23: the search for a free slot finds none. -/
theorem openWithEverySlotOpen : Obligations.OpenWithEverySlotOpen := by
  intro s hp hfull
  have hfind : freeHandle (s.received .openHandle) = none := freeHandle_eq_none hfull
  calc exec .openHandle s
      = openBody (s.received .openHandle) := whenAdmitted_idle hp
    _ = .next ((s.received .openHandle).raise .noHandle 0) := by rw [openBody, hfind]

/-! ### A command that fails its checks (R202, R222, R224, R225) -/

section
variable {i : Instr} {s : State} {h : Handle} (hr : s.ready h)
include hr

/-- The size is checked before XFER_ERR. -/
theorem ctrl_badLen {size len : Half} (hlen : len ≠ size) (x : Bool) (f : State → State) :
    onHandle i h (ctrlBody size h len x f) s = .next ((s.received i).raise .badLen h) :=
  (onHandle_ready hr).trans (if_pos hlen)

theorem ctrl_fault (size : Half) (f : State → State) :
    onHandle i h (ctrlBody size h size true f) s = .next ((s.received i).raise .fault h) :=
  (onHandle_ready hr).trans ((if_neg (not_not.2 rfl)).trans (if_pos rfl))

end

/-- Settles O36: each command checks LEN against its own size. -/
theorem wrongControlLength : Obligations.WrongControlLength := fun _ _ _ _ x hr =>
  ⟨fun hlen => ⟨ctrl_badLen hr hlen x _, ctrl_badLen hr hlen x _, ctrl_badLen hr hlen x _⟩,
    fun hlen => ctrl_badLen hr hlen x _⟩

/-- Settles O37: past the prologue an unsupported command looks at neither LEN nor XFER_ERR. -/
theorem unsupportedCommands : Obligations.UnsupportedCommands := fun _ _ _ _ _ hr =>
  ⟨fun _ => onHandle_ready hr, fun _ => onHandle_ready hr⟩

/-! ### Transfer errors (R222) -/

theorem exec_write_fault {s : State} {h : Handle} (hr : s.ready h) (len : Half) (p : List Byte) :
    exec (.write h len p true) s = .next ((s.received (.write h len p true)).raise .fault h) :=
  (onHandle_ready hr).trans (if_pos rfl)

/-- XFER_ERR counts for a READ that is neither at the end of the frame nor blocks. -/
theorem exec_read_fault {s : State} {h : Handle} {nb : Bool} (hr : s.ready h) (hend : (s.slot h).pos ≠ s.fbBytes)
    (hnow : nb = true ∨ (s.slot h).pos ≠ 0) (len : Half) :
    exec (.read h nb len true) s = .next ((s.received (.read h nb len true)).raise .fault h) := by
  have hblock : ¬((s.slot h).pos = 0 ∧ nb = false) := by
    rintro ⟨hzero, rfl⟩
    simp [hzero] at hnow
  exact (onHandle_ready hr).trans ((if_neg hend).trans ((if_neg hblock).trans (if_pos rfl)))

theorem completeWaiter_fault {w : Waiter} (hx : w.xferErr = true) (h : Handle) (s : State) :
    completeWaiter h w s = (s.setPend h none).raise .fault h :=
  if_pos hx

/-- Settles O38: in each of the four cases XFER_ERR is what is left to look at, and nothing has been written before. -/
theorem transferErrorsEndFault : Obligations.TransferErrorsEndFault := by
  refine ⟨fun s h len p hr => ?_, fun s h nb len hr hend hnow => exec_read_fault hr hend hnow len,
    fun s h w _ hx => completeWaiter_fault hx h s⟩
  exact ⟨exec_write_fault hr len p, ctrl_fault hr delaySize _, ctrl_fault hr delaySize _, ctrl_fault hr gammaSize _,
    ctrl_fault hr delaySize _⟩

/-! ### Handles that are not bound, or have a READ pending (R221, R227) -/

/-- CLOSE, WRITE, READ and CTRL share one prologue (R119). -/
theorem exists_exec_eq_onHandle {i : Instr} (hopen : i ≠ .openHandle) (hcancel : i ≠ .cancel i.handle) :
    ∃ body, exec i = onHandle i i.handle body := by
  cases i with
  | openHandle => exact absurd rfl hopen
  | cancel h => exact absurd rfl hcancel
  | _ => exact ⟨_, rfl⟩

/-- Settles O39: both prologues check the handle, and that of CANCEL does not ask for the port. -/
theorem unboundHandle : Obligations.UnboundHandle := by
  intro s i hopen hb hadmitted
  by_cases hcancel : i = .cancel i.handle
  · have hexec : exec i = onCancel i i.handle (cancelBody i.handle) := by rw [hcancel]; rfl
    exact (congrFun hexec s).trans (onCancel_badHandle hb)
  · have hp : s.port = .idle := hadmitted.resolve_right hcancel
    obtain ⟨body, hexec⟩ := exists_exec_eq_onHandle hopen hcancel
    exact (congrFun hexec s).trans (onHandle_badHandle hp hb)

/-- Settles O40: the shared prologue answers BUSY before the body is reached. -/
theorem handleWithPendingRead : Obligations.HandleWithPendingRead := by
  intro s i hopen hcancel hp hb hw
  obtain ⟨body, hexec⟩ := exists_exec_eq_onHandle hopen hcancel
  exact (congrFun hexec s).trans (onHandle_busy hp hb hw)

/-! ### ILLEGAL requests (R226) -/

/-- Settles O42: what is answered depends on the header alone. -/
theorem illegalRequestResponse : Obligations.IllegalRequestResponse := fun _ _ _ hp hd => runRequest_illegal hd hp

end Sys2Proof.Machine
end

section
/-! SUPPORT. The state after reset, and the block at rest (spec/70_reset_and_hazards.md R251, R271). -/

namespace Sys2Proof.Machine

/-! ### Reset (R251) -/

@[simp] theorem slot_resetWith (c : Config) (h : Handle) : (State.resetWith c).slot h = Slot.reset :=
  Vector.getElem_replicate _

/-- Settles O6: every slot is the reset slot, no byte of the frame is listed, and the rest is a field of the reset state. -/
theorem resetState : Obligations.ResetState := by
  intro c
  have hslot (h : Handle) : ((State.resetWith c).slot h).isOpen = false ∧ ((State.resetWith c).slot h).pos = 0
      ∧ ((State.resetWith c).slot h).pend = none := by
    rw [slot_resetWith]
    exact ⟨rfl, rfl, rfl⟩
  have hmem (a : Nat) : (State.resetWith c).mem.read a = 0 := Memory.read_unlisted nofun
  exact ⟨rfl, hslot, rfl, rfl, hmem, rfl, rfl, rfl, rfl, rfl, rfl⟩

/-! ### Rest (R271) -/

/-- The default choice looks in turn for a step of each agent that `State.quiescent` says has none. -/
theorem defaultChoice_eq_none_iff {s : State} : defaultChoice s = none ↔ s.quiescent := by
  unfold defaultChoice State.quiescent
  by_cases hser : s.ser = .idle
  case neg => simp [hser]
  by_cases hport : s.port = .idle
  case neg => simp [hser, hport]
  cases hk : s.clients.findIdx? (Client.ready s) with
  | some k =>
    have hready : ¬ ∀ c ∈ s.clients, c.ready s = false := fun hr => by
      simp [List.findIdx?_eq_none_iff.2 hr] at hk
    simp [hser, hport, hready]
  | none =>
    have hready : ∀ c ∈ s.clients, c.ready s = false := List.findIdx?_eq_none_iff.1 hk
    simpa [hser, hport] using fun _ => hready

theorem nextChoice_of_sched_nil {s : State} (hs : s.sched = []) : nextChoice s = defaultChoice s := by
  simp [nextChoice, hs]

theorem step_of_no_choice {s : State} (hc : s.cfg.wf = true) (hn : nextChoice s = none) : step s = .next s := by
  simp [step, deviceStep, hc, hn]

/-- Settles O59: with no choice made, the default choice decides whether a step is taken. -/
theorem quiescentStateRests : Obligations.QuiescentStateRests := by
  intro s hc hs
  have hiff : s.quiescent ↔ nextChoice s = none := by
    rw [nextChoice_of_sched_nil hs, defaultChoice_eq_none_iff]
  exact ⟨hiff, fun hq => step_of_no_choice hc (hiff.1 hq)⟩

end Sys2Proof.Machine
end
